-- ==== Sys2Proof/Config.lean ====
section
/-! DEFINITION. The device constants of the manual's device summary (00_scope.md, 1.2) and of the rules
that fix a capacity, and the one free value: what MISO carries where no rule says it. -/

namespace Sys2Proof.Config

/-- Bytes of the configuration image (R177). -/
def imageBytes : Nat := 1344

/-- First byte of the shared section, which the digest covers (R154). -/
def sharedFrom : Nat := 32

/-- Requests the urgent queue holds at most (R133). -/
def urgentCapacity : Nat := 8

/-- Entries the notice list holds at most (R72). -/
def noticeCapacity : Nat := 8

/-- Records the event queue holds at most (R163). -/
def eventCapacity : Nat := 32

/-- Records a POINT frame carries at most (R95). -/
def recordsPerFrame : Nat := 8

/-- The consecutive-failure count that isolates the station (R142). -/
def isolationFailures : Nat := 8

/-- The value at which an entry's age saturates (R17). -/
def ageLimit : Nat := 65535

/-- The value at which the rejected-frame count saturates (R129). -/
def rejectedLimit : Nat := 65535

/-- Bits of a sample word (R176). -/
def sampleBits : Nat := 24

/-- Bits of the input number at the head of a sample word (R25, R176). -/
def inputBits : Nat := 4

/-- The format tag of an image the device reads (R150). -/
def formatTag : Nat := 0x3C

/-- The level of MISO, none for high impedance, in bit time `n` while MCSn is low and the port still waits for it to rise
after a release of RSTn. R167 does not state it: a free value (log entry 8). -/
opaque waitingMiso (n : Nat) : Option Bool

end Sys2Proof.Config
end

