-- ==== Sys2Proof/Word.lean ====
section
/-! DEFINITION. Bytes, 16-bit and 32-bit words with the byte order of R172, and the fixed-size table
type that the device's numbered tables (points, groups, stations, inputs) are held in. -/

namespace Sys2Proof

/-- One byte of a frame, of the image or of a management transaction. -/
abbrev Byte := BitVec 8

/-- A 16-bit quantity: an epoch, a sample value (two's complement), a limit, a count (R172). -/
abbrev Half := BitVec 16

/-- A 32-bit quantity: a digest or the local time. -/
abbrev Word := BitVec 32

/-- The two bytes of a 16-bit quantity, most significant byte first (R172). -/
def Half.bytes (w : Half) : List Byte := [w.extractLsb' 8 8, w.extractLsb' 0 8]

/-- The 16-bit quantity that two bytes hold, most significant byte first (R172). -/
def Half.ofBytes (hi lo : Byte) : Half := hi ++ lo

/-- The four bytes of a 32-bit quantity, most significant byte first (R172). -/
def Word.bytes (w : Word) : List Byte :=
  [w.extractLsb' 24 8, w.extractLsb' 16 8, w.extractLsb' 8 8, w.extractLsb' 0 8]

/-- The 32-bit quantity that four bytes hold, most significant byte first (R172). -/
def Word.ofBytes (a b c d : Byte) : Word := (a ++ b) ++ (c ++ d)

/-- A table with exactly `n` cells, numbered from 0. -/
structure Table (n : Nat) (α : Type) where
  /-- The cells in increasing number. -/
  cells : List α
  /-- There are `n` of them. -/
  size : cells.length = n
deriving DecidableEq, Repr

namespace Table

/-- The cell of number `i`. -/
def get {n : Nat} {α : Type} (t : Table n α) (i : Fin n) : α := t.cells.get (i.cast t.size.symm)

/-- The table with cell `i` replaced; every other cell is kept. -/
def set {n : Nat} {α : Type} (t : Table n α) (i : Fin n) (a : α) : Table n α :=
  ⟨t.cells.set i a, by rw [List.length_set]; exact t.size⟩

/-- The table whose cell `i` is `f i`. -/
def ofFn {n : Nat} {α : Type} (f : Fin n → α) : Table n α := ⟨List.ofFn f, List.length_ofFn⟩

/-- The table with the same value in every cell. -/
def fill {n : Nat} {α : Type} (a : α) : Table n α := ⟨List.replicate n a, List.length_replicate⟩

/-- Every cell changed by the same function. -/
def map {n : Nat} {α β : Type} (f : α → β) (t : Table n α) : Table n β :=
  ⟨t.cells.map f, by rw [List.length_map]; exact t.size⟩

end Table

end Sys2Proof
end

