-- ==== Sys2Proof/Syntax.lean ====
section
/-! DEFINITION. The commands the block takes: one constructor of `Instr` per row of spec/opcode_table.json,
with the operands its rule gives, and the data a frame carries on the link (R174, R175). -/

namespace Sys2Proof

/-- A station number 0–15. -/
abbrev Station := Fin 16
/-- A point number 0–63. -/
abbrev Point := Fin 64
/-- A group number 0–15. -/
abbrev Group := Fin 16
/-- A local input number 0–7. -/
abbrev Input := Fin 8
/-- An epoch 0–65535 (R64). -/
abbrev Epoch := BitVec 16

/-- The quality of a point's content (R1). -/
inductive Quality where
  | none | good | faulted | stale
deriving DecidableEq, Repr

/-- The sides a limit outcome can take (R32). `inside` is the manual's IN. -/
inductive Side where
  | high | low | inside
deriving DecidableEq, Repr

/-- The hit of a point or of a context (R1, R28): NONE, CLEAR, or one of the sides. -/
inductive Hit where
  | none | clear | side (s : Side)
deriving DecidableEq, Repr

/-- A record of a POINT frame, and the first part of a CLAIM or YIELD record (R175). The hit stands as its
3-bit code, since a received code may name no hit (R131). -/
structure Record where
  point : Byte
  epoch : Epoch
  quality : Quality
  hit : BitVec 3
  value : Option Half
deriving DecidableEq, Repr

/-- The debounce pair of a CLAIM or YIELD record (R175). The candidate stands as its 4-bit code, since a
received code may name no side (R131). -/
structure Debounce where
  candidate : BitVec 4
  assertProgress : BitVec 4
  clearProgress : BitVec 4
deriving DecidableEq, Repr

/-- A record of a CLAIM or YIELD frame (R175). -/
structure CustodyRecord where
  record : Record
  debounce : Debounce
deriving DecidableEq, Repr

/-- An acted pair of a PRESENCE frame (R122, R175). -/
structure ActedPair where
  point : Byte
  epoch : Epoch
deriving DecidableEq, Repr

/-- A notice as a PRESENCE frame carries it (R122, R175). -/
structure WireNotice where
  point : Byte
  owner : Byte
  epoch : Epoch
deriving DecidableEq, Repr

/-- The payload of a frame, by kind (R175). -/
inductive Payload where
  | presence (digest : Word) (pairs : List ActedPair) (notices : List WireNotice)
  | point (records : List Record)
  | claim (records : List CustodyRecord)
  | yield (records : List CustodyRecord)
  | reclaim (points : List Byte)
  | trip (group subkind : Byte)
deriving DecidableEq, Repr

/-- A frame that passes checks 1 to 3 of R129: its sender and its payload. -/
structure Frame where
  sender : Station
  payload : Payload
deriving DecidableEq, Repr

/-- The commands of spec/opcode_table.json, one constructor per row.

A frame command carries the bytes the receiver gathered between the delimiters (R126, R128). A timer expiry
names its timer by point, group, station or input. The level of a pin that a rule reads at the moment of a
command (SFS at R27, MCSn at R167, carrier on LRX at R127) is an operand of that command. -/
inductive Instr where
  /-- POWER_UP (R146): `sfsHigh` and `mcsnLow` are the levels of SFS and MCSn as the device starts, with RSTn
  released (DESIGN CHOICE, log entry 23). -/
  | powerUp (sfsHigh mcsnLow : Bool)
  /-- RSTN_ASSERTED (R146). -/
  | rstnAsserted
  /-- RSTN_RELEASED (R146, R27, R167): `sfsHigh` and `mcsnLow` are the levels of SFS and MCSn at the release. -/
  | rstnReleased (sfsHigh mcsnLow : Bool)
  /-- SAMPLE_ARRIVAL (R24): an SFS frame ends; `bits` are the bits it delivered, first bit first. -/
  | sampleArrival (bits : List Bool)
  /-- POINT_FRAME (R12): the bytes of a received POINT frame. -/
  | pointFrame (bytes : List Byte)
  /-- CLAIM_FRAME (R66): the bytes of a received CLAIM frame. -/
  | claimFrame (bytes : List Byte)
  /-- YIELD_FRAME (R67): the bytes of a received YIELD frame. -/
  | yieldFrame (bytes : List Byte)
  /-- RECLAIM_FRAME (R79): the bytes of a received RECLAIM frame. -/
  | reclaimFrame (bytes : List Byte)
  /-- TRIPPED_FRAME (R103): the bytes of a received TRIP frame with subkind TRIPPED. -/
  | trippedFrame (bytes : List Byte)
  /-- RELEASE_FRAME (R108): the bytes of a received TRIP frame with subkind RELEASE. -/
  | releaseFrame (bytes : List Byte)
  /-- PRESENCE_FRAME (R117): the bytes of a received PRESENCE frame. -/
  | presenceFrame (bytes : List Byte)
  /-- BAD_FRAME (R129): the bytes of a received frame that fails a check of R129. -/
  | badFrame (bytes : List Byte)
  /-- JAM (R128). -/
  | jam
  /-- TRUNCATED_FRAME (R128). -/
  | truncatedFrame
  /-- IDLE_EVENT (R127). -/
  | idleEvent
  /-- CARRIER_SEEN (R138). -/
  | carrierSeen
  /-- WIN (R138). -/
  | win
  /-- COMPLETION (R140). -/
  | completion
  /-- COLLISION (R141). -/
  | collision
  /-- JAM_END (R142). -/
  | jamEnd
  /-- FRESHNESS_EXPIRY (R15) of the entry of a point. -/
  | freshnessExpiry (p : Point)
  /-- CONFIRM_TIMER_EXPIRY (R54) of a group. -/
  | confirmTimerExpiry (g : Group)
  /-- REFRESH_TIMER_EXPIRY (R92) of a point. -/
  | refreshTimerExpiry (p : Point)
  /-- CLAIM_RETRY_EXPIRY (R84) of the custody entry of an input. -/
  | claimRetryExpiry (i : Input)
  /-- RECLAIM_WAIT_EXPIRY (R85) of the custody entry of an input. -/
  | reclaimWaitExpiry (i : Input)
  /-- HOLDOFF_EXPIRY (R86) of the custody entry of an input. -/
  | holdoffExpiry (i : Input)
  /-- SILENCE_TIMER_EXPIRY (R118) of a station's roster entry. -/
  | silenceTimerExpiry (a : Station)
  /-- PRESENCE_TIMER_EXPIRY (R120). -/
  | presenceTimerExpiry
  /-- LISTEN_TIMER_EXPIRY (R156). -/
  | listenTimerExpiry
  /-- ISOLATION_HOLD_EXPIRY (R157). -/
  | isolationHoldExpiry
  /-- VALIDATION_COMPLETION (R149): `carrier` tells whether carrier is on LRX as the receiver is switched on (R127). -/
  | validationCompletion (carrier : Bool)
  /-- WRITE_IMAGE (R147, R170): the offset and the data bytes, whose number is the count argument. -/
  | writeImage (offset : Half) (data : List Byte)
  /-- READ_IMAGE (R170). -/
  | readImage (offset count : Half)
  /-- START (R148). -/
  | start
  /-- RESTART (R158): `sfsHigh` is the level of SFS as the command takes effect (R27). -/
  | restart (sfsHigh : Bool)
  /-- READ_STATUS (R169). -/
  | readStatus
  /-- READ_POINT (R23). -/
  | readPoint (point : Byte)
  /-- READ_GROUP (R63). -/
  | readGroup (group : Byte)
  /-- READ_ROSTER (R124). -/
  | readRoster (station : Byte)
  /-- POP_EVENT (R165). -/
  | popEvent
  /-- CLEAR_LATCH (R19). -/
  | clearLatch (point : Byte)
  /-- RELEASE (R105). -/
  | release (group : Byte)
  /-- RECLAIM (R87). -/
  | reclaim
  /-- UNKNOWN_COMMAND_BYTE (R168): the command byte that names no command. -/
  | unknownCommandByte (code : Byte)
  /-- PARTIAL_COMMAND_DISCARDED (R167). -/
  | partialCommandDiscarded
  /-- LOCAL_TIME_TICK (R160). -/
  | localTimeTick
deriving DecidableEq, Repr

end Sys2Proof
end

