-- ==== Sys2Proof/Decode.lean ====
section
/-! DEFINITION. The byte layouts through which commands reach the block: the frame bytes between the delimiters
(R174, R175, checked by R129), the transactions of the management port (R178), and the host's two fixed names.
The rows of spec/opcode_table.json give no bits, so `decodeTableWord` answers `none` for every word. -/

namespace Sys2Proof

/-! ### CRC-16 of a frame (R174) -/

/-- One bit of the CRC-16: shift left, and add the polynomial 0x1021 when a 1 leaves (R174). -/
def crc16Bit (c : Half) : Half := if c.getLsbD 15 then (c <<< 1) ^^^ 0x1021#16 else c <<< 1

/-- One byte of the CRC-16, most significant bit first (R174). -/
def crc16Byte (c : Half) (b : Byte) : Half :=
  crc16Bit (crc16Bit (crc16Bit (crc16Bit (crc16Bit (crc16Bit (crc16Bit (crc16Bit (c ^^^ (b ++ 0#8)))))))))

/-- The CRC-16 of the frame bytes: initial value 0xFFFF, no final exclusive-or (R174). -/
def crc16 (bytes : List Byte) : Half := bytes.foldl crc16Byte 0xFFFF#16

/-! ### Codes inside a record (R175) -/

/-- The code of a quality in a status byte (R175). -/
def qualityCode : Quality → BitVec 2
  | .none => 0 | .good => 1 | .faulted => 2 | .stale => 3

/-- The quality a status byte's code names (R175). -/
def qualityOfCode (c : BitVec 2) : Quality :=
  if c = 0 then .none else if c = 1 then .good else if c = 2 then .faulted else .stale

/-- The code of a hit in a status byte (R175). -/
def hitCode : Hit → BitVec 3
  | .none => 0 | .clear => 1 | .side .high => 2 | .side .low => 3 | .side .inside => 4

/-- The hit a status byte's code names; 5 to 7 name none (R175). -/
def hitOfCode (c : BitVec 3) : Option Hit :=
  if c = 0 then some .none else if c = 1 then some .clear else if c = 2 then some (.side .high)
  else if c = 3 then some (.side .low) else if c = 4 then some (.side .inside) else none

/-- The code of a candidate side in a debounce pair (R175). -/
def candidateCode : Option Side → BitVec 4
  | none => 0 | some .high => 1 | some .low => 2 | some .inside => 3

/-- The candidate a debounce pair's code names: `some none` for no candidate; 4 to 15 name no side (R175). -/
def candidateOfCode (c : BitVec 4) : Option (Option Side) :=
  if c = 0 then some none else if c = 1 then some (some .high) else if c = 2 then some (some .low)
  else if c = 3 then some (some .inside) else none

/-! ### Encoding a frame (R174, R175): reserved bits are sent as 0 -/

/-- The status byte of a record (R175). -/
def Record.status (r : Record) : Byte :=
  ((qualityCode r.quality ++ r.hit) ++ (if r.value.isSome then 1#1 else 0#1)) ++ 0#2

/-- The bytes of a record's value: none when it is absent (R172, R175). -/
def valueBytes : Option Half → List Byte
  | none => []
  | some v => Half.bytes v

/-- The bytes of a record (R175). -/
def Record.bytes (r : Record) : List Byte :=
  r.point :: (Half.bytes r.epoch ++ r.status :: valueBytes r.value)

/-- The bytes of a debounce pair (R175). -/
def Debounce.bytes (d : Debounce) : List Byte :=
  [d.candidate ++ d.assertProgress, 0#4 ++ d.clearProgress]

/-- The bytes of a CLAIM or YIELD record (R175). -/
def CustodyRecord.bytes (r : CustodyRecord) : List Byte := r.record.bytes ++ r.debounce.bytes

/-- The bytes of an acted pair (R175). -/
def ActedPair.bytes (a : ActedPair) : List Byte := a.point :: Half.bytes a.epoch

/-- The bytes of a notice (R175). -/
def WireNotice.bytes (n : WireNotice) : List Byte := n.point :: n.owner :: Half.bytes n.epoch

/-- A count byte and the entries it counts (R175). -/
def counted {α : Type} (f : α → List Byte) (l : List α) : List Byte :=
  BitVec.ofNat 8 l.length :: l.flatMap f

/-- The payload bytes of a frame (R175). -/
def Payload.bytes : Payload → List Byte
  | .presence d ps ns => Word.bytes d ++ counted ActedPair.bytes ps ++ counted WireNotice.bytes ns
  | .point rs => counted Record.bytes rs
  | .claim rs => counted CustodyRecord.bytes rs
  | .yield rs => counted CustodyRecord.bytes rs
  | .reclaim ps => counted (fun p => [p]) ps
  | .trip g k => [g, k]

/-- The kind code of a frame (R174). -/
def Payload.kind : Payload → BitVec 4
  | .presence .. => 1 | .point _ => 2 | .claim _ => 3 | .yield _ => 4 | .reclaim _ => 5 | .trip .. => 6

/-- The frame bytes that the CRC covers: header and payload (R174). -/
def Frame.body (f : Frame) : List Byte :=
  (f.payload.kind ++ BitVec.ofNat 4 f.sender.val) :: BitVec.ofNat 8 f.payload.bytes.length :: f.payload.bytes

/-- The frame bytes between the delimiters (R174). -/
def Frame.bytes (f : Frame) : List Byte := f.body ++ Half.bytes (crc16 f.body)

/-! ### Reading a frame: the checks of R129 -/

/-- A 16-bit quantity from the front of a byte list (R172). -/
def takeHalf : List Byte → Option (Half × List Byte)
  | a :: b :: rest => some (Half.ofBytes a b, rest)
  | _ => none

/-- The value of a record, present when `present` says so (R175). -/
def takeValue (present : Bool) (bs : List Byte) : Option (Option Half × List Byte) :=
  if present then
    match takeHalf bs with
    | some (v, rest) => some (some v, rest)
    | none => none
  else some (none, bs)

/-- A record from the front of a byte list (R175). Reserved bits are ignored (R129). -/
def takeRecord : List Byte → Option (Record × List Byte)
  | p :: e1 :: e0 :: st :: rest =>
    match takeValue (st.getLsbD 2) rest with
    | some (v, rest') =>
      some ({ point := p, epoch := Half.ofBytes e1 e0, quality := qualityOfCode (st.extractLsb' 6 2),
              hit := st.extractLsb' 3 3, value := v }, rest')
    | none => none
  | _ => none

/-- A CLAIM or YIELD record from the front of a byte list (R175). -/
def takeCustodyRecord (bs : List Byte) : Option (CustodyRecord × List Byte) :=
  match takeRecord bs with
  | some (r, d0 :: d1 :: rest) =>
    some ({ record := r,
            debounce := { candidate := d0.extractLsb' 4 4, assertProgress := d0.extractLsb' 0 4,
                          clearProgress := d1.extractLsb' 0 4 } }, rest)
  | _ => none

/-- An acted pair from the front of a byte list (R175). -/
def takeActedPair : List Byte → Option (ActedPair × List Byte)
  | p :: e1 :: e0 :: rest => some ({ point := p, epoch := Half.ofBytes e1 e0 }, rest)
  | _ => none

/-- A notice from the front of a byte list (R175). -/
def takeWireNotice : List Byte → Option (WireNotice × List Byte)
  | p :: o :: e1 :: e0 :: rest => some ({ point := p, owner := o, epoch := Half.ofBytes e1 e0 }, rest)
  | _ => none

/-- One byte from the front of a byte list. -/
def takeByte : List Byte → Option (Byte × List Byte)
  | b :: rest => some (b, rest)
  | [] => none

/-- `n` entries from the front of a byte list, each read by `f`. -/
def takeMany {α : Type} (f : List Byte → Option (α × List Byte)) : Nat → List Byte → Option (List α × List Byte)
  | 0, bs => some ([], bs)
  | n + 1, bs =>
    match f bs with
    | some (a, rest) =>
      match takeMany f n rest with
      | some (l, rest') => some (a :: l, rest')
      | none => none
    | none => none

/-- A count byte between `lo` and `hi`, and the entries it counts (R129, R175). -/
def takeCounted {α : Type} (f : List Byte → Option (α × List Byte)) (lo hi : Nat) :
    List Byte → Option (List α × List Byte)
  | c :: rest => if lo ≤ c.toNat ∧ c.toNat ≤ hi then takeMany f c.toNat rest else none
  | [] => none

/-- The list of a payload that nothing may follow (R129, check 3). -/
def whole {α : Type} : Option (α × List Byte) → Option α
  | some (a, []) => some a
  | _ => none

/-- The payload of a PRESENCE frame (R129, check 3; R175). -/
def parsePresence : List Byte → Option Payload
  | a :: b :: c :: d :: rest =>
    match takeCounted takeActedPair 0 8 rest with
    | some (ps, rest') => (whole (takeCounted takeWireNotice 0 8 rest')).map (.presence (Word.ofBytes a b c d) ps)
    | none => none
  | _ => none

/-- The payload of a TRIP frame (R129, check 3; R175). -/
def parseTrip : List Byte → Option Payload
  | [g, k] => some (.trip g k)
  | _ => none

/-- The payload of a frame whose kind code is `k`: checks 2 and 3 of R129. -/
def parsePayload (k : BitVec 4) (bs : List Byte) : Option Payload :=
  if k = 1 then parsePresence bs
  else if k = 2 then (whole (takeCounted takeRecord 1 8 bs)).map .point
  else if k = 3 then (whole (takeCounted takeCustodyRecord 1 8 bs)).map .claim
  else if k = 4 then (whole (takeCounted takeCustodyRecord 1 8 bs)).map .yield
  else if k = 5 then (whole (takeCounted takeByte 1 8 bs)).map .reclaim
  else if k = 6 then parseTrip bs
  else none

/-- The last two bytes of a byte list as a 16-bit quantity, and the bytes before them. -/
def splitCrc (bs : List Byte) : Option (List Byte × Half) :=
  match bs.drop (bs.length - 2) with
  | [hi, lo] => some (bs.take (bs.length - 2), Half.ofBytes hi lo)
  | _ => none

/-- The frame that received bytes hold: checks 1 to 3 of R129. `none` where a check fails. -/
def parseFrame (bs : List Byte) : Option Frame :=
  match splitCrc bs with
  | some (b0 :: len :: payload, crc) =>
    if payload.length = len.toNat ∧ crc16 (b0 :: len :: payload) = crc then
      (parsePayload (b0.extractLsb' 4 4) payload).map (fun p => { sender := (b0.extractLsb' 0 4).toFin, payload := p })
    else none
  | _ => none

/-! ### Management transactions (R167, R178) -/

/-- The command byte of a host command (R178). -/
def commandByte : Instr → Option Byte
  | .writeImage _ _ => some 0x21
  | .readImage _ _ => some 0x22
  | .start => some 0x30
  | .restart _ => some 0x31
  | .readStatus => some 0x40
  | .readPoint _ => some 0x41
  | .readGroup _ => some 0x42
  | .readRoster _ => some 0x43
  | .popEvent => some 0x44
  | .clearLatch _ => some 0x50
  | .release _ => some 0x51
  | .reclaim => some 0x52
  | .powerUp _ _ | .rstnAsserted | .rstnReleased _ _ | .sampleArrival _ | .pointFrame _ | .claimFrame _
  | .yieldFrame _ | .reclaimFrame _ | .trippedFrame _ | .releaseFrame _ | .presenceFrame _ | .badFrame _
  | .jam | .truncatedFrame | .idleEvent | .carrierSeen | .win | .completion | .collision | .jamEnd
  | .freshnessExpiry _ | .confirmTimerExpiry _ | .refreshTimerExpiry _ | .claimRetryExpiry _
  | .reclaimWaitExpiry _ | .holdoffExpiry _ | .silenceTimerExpiry _ | .presenceTimerExpiry
  | .listenTimerExpiry | .isolationHoldExpiry | .validationCompletion _ | .unknownCommandByte _
  | .partialCommandDiscarded | .localTimeTick => none

/-- The command bytes that name a command (R178). -/
def commandBytes : List Byte :=
  [0x21, 0x22, 0x30, 0x31, 0x40, 0x41, 0x42, 0x43, 0x44, 0x50, 0x51, 0x52]

/-- Whether a command byte names a command (R168, check 1). -/
def namesCommand (b : Byte) : Bool := commandBytes.contains b

/-- The bytes the host shifts in on MOSI for a command (R178): none for a command that is not the host's. -/
def mosiBytes : Instr → Option (List Byte)
  | .writeImage off data => some (0x21 :: (Half.bytes off ++ Half.bytes (BitVec.ofNat 16 data.length) ++ data))
  | .readImage off n => some (0x22 :: (Half.bytes off ++ Half.bytes n))
  | .start => some [0x30]
  | .restart _ => some [0x31]
  | .readStatus => some [0x40]
  | .readPoint p => some [0x41, p]
  | .readGroup g => some [0x42, g]
  | .readRoster a => some [0x43, a]
  | .popEvent => some [0x44]
  | .clearLatch p => some [0x50, p]
  | .release g => some [0x51, g]
  | .reclaim => some [0x52]
  | .unknownCommandByte b => some [b]
  | .powerUp _ _ | .rstnAsserted | .rstnReleased _ _ | .sampleArrival _ | .pointFrame _ | .claimFrame _
  | .yieldFrame _ | .reclaimFrame _ | .trippedFrame _ | .releaseFrame _ | .presenceFrame _ | .badFrame _
  | .jam | .truncatedFrame | .idleEvent | .carrierSeen | .win | .completion | .collision | .jamEnd
  | .freshnessExpiry _ | .confirmTimerExpiry _ | .refreshTimerExpiry _ | .claimRetryExpiry _
  | .reclaimWaitExpiry _ | .holdoffExpiry _ | .silenceTimerExpiry _ | .presenceTimerExpiry
  | .listenTimerExpiry | .isolationHoldExpiry | .validationCompletion _
  | .partialCommandDiscarded | .localTimeTick => none

/-- A command with no argument (R178). -/
def bareCommand (code : Byte) (sfsHigh : Bool) : Option Instr :=
  if code = 0x30 then some .start
  else if code = 0x31 then some (.restart sfsHigh)
  else if code = 0x40 then some .readStatus
  else if code = 0x44 then some .popEvent
  else if code = 0x52 then some .reclaim
  else none

/-- A command with one argument byte (R178). -/
def byteCommand (code arg : Byte) : Option Instr :=
  if code = 0x41 then some (.readPoint arg)
  else if code = 0x42 then some (.readGroup arg)
  else if code = 0x43 then some (.readRoster arg)
  else if code = 0x50 then some (.clearLatch arg)
  else if code = 0x51 then some (.release arg)
  else none

/-- A command with an offset and a count (R170, R178); `data` are the bytes that follow them. -/
def imageCommand (code : Byte) (off n : Half) (data : List Byte) : Option Instr :=
  if code = 0x22 then some (.readImage off n)
  else if code = 0x21 ∧ n.toNat ≤ data.length then some (.writeImage off (data.take n.toNat))
  else none

/-- The command a transaction's MOSI bytes give (R167, R168, R178). Bytes after the last argument are ignored;
a transaction that MCSn ends before its command is taken is a discarded partial command. `sfsHigh` is the level
of SFS when the command is taken. -/
def decodeMosi (sfsHigh : Bool) : List Byte → Instr
  | [] => .partialCommandDiscarded
  | code :: args =>
    if namesCommand code then
      match bareCommand code sfsHigh with
      | some i => i
      | none =>
        match args with
        | [] => .partialCommandDiscarded
        | a :: more =>
          match byteCommand code a with
          | some i => i
          | none =>
            match more with
            | b :: c :: d :: data =>
              match imageCommand code (Half.ofBytes a b) (Half.ofBytes c d) data with
              | some i => i
              | none => .partialCommandDiscarded
            | _ => .partialCommandDiscarded
    else .unknownCommandByte code

/-- The bits of a byte as MOSI carries them, most significant bit first (R167). -/
def byteBits (b : Byte) : List Bool :=
  [b.getLsbD 7, b.getLsbD 6, b.getLsbD 5, b.getLsbD 4, b.getLsbD 3, b.getLsbD 2, b.getLsbD 1, b.getLsbD 0]

/-- The whole bytes that bits spell, most significant bit first; a byte that MCSn cuts short is none (R167). -/
def bytesOfBits : List Bool → List Byte
  | b7 :: b6 :: b5 :: b4 :: b3 :: b2 :: b1 :: b0 :: rest =>
    (BitVec.ofBool b7 ++ BitVec.ofBool b6 ++ BitVec.ofBool b5 ++ BitVec.ofBool b4 ++
      BitVec.ofBool b3 ++ BitVec.ofBool b2 ++ BitVec.ofBool b1 ++ BitVec.ofBool b0) :: bytesOfBits rest
  | _ => []

/-- The command that the bits of a transaction give: those the device takes from MOSI at the rising edges of MSCK between the
fall of MCSn and its rise (R167). -/
def decodeMosiBits (sfsHigh : Bool) (bits : List Bool) : Instr := decodeMosi sfsHigh (bytesOfBits bits)

/-! ### The opcode table's bits -/

/-- The command a word of the opcode table's bits spells. No row of spec/opcode_table.json gives bits, so no
word spells a command. -/
def decodeTableWord (_nbits _w : Nat) : Option Instr := none

end Sys2Proof
end

