-- ==== Sys2Proof/Machine/State.lean ====
section
/-! DEFINITION. The state of the device, block by block as the manual's section 2 divides it, plain data
throughout, and the state after power-up. Each field cites the rule that names it. -/

namespace Sys2Proof.Machine

/-! ### Timers -/

/-- A timer of the 1 ms local time base: stopped, or running with the whole milliseconds left. -/
inductive Timer where
  | stopped
  | running (left : Nat)
deriving DecidableEq, Repr

/-- The holdoff timer of a HOME custody entry (R86): a held timer counts no time and has no expiry. -/
inductive Holdoff where
  | stopped
  | running (left : Nat)
  | held
deriving DecidableEq, Repr

/-! ### Station Controller (R145, R146) -/

/-- The station states (R145). -/
inductive StationState where
  | config | validating | listen | run | isolated
deriving DecidableEq, Repr

/-- The last START error, with its subject (R145). -/
inductive StartError where
  | none | aborted | noImage | badFormat | badStation | badLink
  | badPoint (p : Point) | badGroup (g : Group) | badInput (i : Input) | badInputPoint (p : Point)
deriving DecidableEq, Repr

/-- The Station Controller's fields (R145) and the level of RSTn it acts on (R146). -/
structure StationController where
  /-- RSTn is asserted (R146). -/
  rstAsserted : Bool
  /-- The station state (R145). -/
  state : StationState
  /-- The image store (R145, R147): the listed bytes, every other byte reads 0. -/
  image : List Host.Cell
  /-- The image-present flag (R145). -/
  imagePresent : Bool
  /-- The last START error (R145). -/
  startError : StartError
  /-- The digest of the validated image (R145, R154). -/
  digest : Word
  /-- The listen timer (R145, R156). -/
  listen : Timer
  /-- The isolation-hold timer (R145, R157). -/
  isolation : Timer
deriving DecidableEq, Repr

/-! ### Sample Interface (R24, R27) -/

/-- The Sample Interface (R24). A command brings a whole SFS frame, so between commands the word being shifted
in is empty; what lasts is whether a frame in progress was abandoned by a reset and is to be ignored (R27). -/
structure SampleInterface where
  /-- The frame on the port at a reset is abandoned: its end gives no arrival (R27). -/
  abandoned : Bool
deriving DecidableEq, Repr

/-! ### Limit Evaluator (R28) -/

/-- The role of an evaluator context (R28). -/
inductive Role where
  | idle | shadow | acting
deriving DecidableEq, Repr

/-- An evaluator context (R28). -/
structure Context where
  /-- Bound point. -/
  point : Option Point
  role : Role
  /-- NONE, GOOD or FAULTED. -/
  quality : Quality
  /-- The value of the last good sample, or absent. -/
  lastValue : Option Half
  hit : Hit
  /-- The side that is building up assert progress. -/
  candidate : Option Side
  assertProgress : Nat
  clearProgress : Nat
deriving DecidableEq, Repr

/-! ### Point Mirror (R1) -/

/-- The hit latch: a set drawn from HIGH, LOW and IN (R18). -/
structure Latch where
  high : Bool
  low : Bool
  inside : Bool
deriving DecidableEq, Repr

/-- A mirror entry (R1). -/
structure MirrorEntry where
  inUse : Bool
  owner : Option Station
  epoch : Epoch
  quality : Quality
  hit : Hit
  value : Option Half
  freshness : Timer
  /-- Milliseconds since the last content write, saturating at 65535 (R17). -/
  age : Nat
  latch : Latch
deriving DecidableEq, Repr

/-! ### Group Voter (R46, R61) -/

/-- The state of a group (R46). -/
inductive GroupState where
  | clear | arming | tripped | fault
deriving DecidableEq, Repr

/-- The cause of a trip; a REMOTE cause carries its announcer (R46). -/
inductive Cause where
  | localTrip
  | remote (announcer : Station)
deriving DecidableEq, Repr

/-- A group record (R46). -/
structure GroupRecord where
  state : GroupState
  /-- Present in TRIPPED alone. -/
  cause : Option Cause
  hitVotes : Nat
  clearVotes : Nat
  excluded : Nat
  confirm : Timer
  announceOwed : Bool
  /-- Local time of the last change of state. -/
  stamp : Word
deriving DecidableEq, Repr

/-- The Group Voter: the group records and the trip lines it drives (R46, R61). -/
structure Voter where
  groups : Table 16 GroupRecord
  /-- Bit n set: TRIPn is asserted. -/
  lines : BitVec 4
deriving DecidableEq, Repr

/-! ### Custody Controller (R72, R74). The owner and epoch fields stand in the mirror entries (R64). -/

/-- Whether this station is the home or the standby of a bound point (R74). -/
inductive CustodyRole where
  | home | standby
deriving DecidableEq, Repr

/-- A custody entry (R74). -/
structure CustodyEntry where
  point : Point
  role : CustodyRole
  claimDue : Bool
  reclaimDue : Bool
  yieldDue : Bool
  claimRetry : Timer
  reclaimWait : Timer
  holdoff : Holdoff
  lapsed : Bool
  limitReported : Bool
deriving DecidableEq, Repr

/-- A notice (R72). -/
structure Notice where
  point : Point
  owner : Station
  epoch : Epoch
deriving DecidableEq, Repr

/-- The Custody Controller: one custody entry per bound input, and the notice list, head first (R72, R74). -/
structure Custody where
  table : Table 8 (Option CustodyEntry)
  notices : List Notice
deriving DecidableEq, Repr

/-! ### Publisher (R89) -/

/-- A publication record (R89). -/
structure PubRecord where
  lastPublished : Option Half
  refresh : Timer
  carried : Bool
  carriedValue : Option Half
  changed : Bool
deriving DecidableEq, Repr

/-- The Publisher: the publish list, oldest first, and the 64 publication records (R89). -/
structure Publisher where
  list : List Point
  records : Table 64 PubRecord
deriving DecidableEq, Repr

/-! ### Roster (R113, R120, R121) -/

/-- The state of a roster entry (R113); `self` is the manual's SELF. -/
inductive RosterState where
  | absent | present | silent | mismatched | self
deriving DecidableEq, Repr

/-- A roster entry (R113). -/
structure RosterEntry where
  state : RosterState
  lastDigest : Option Word
  silence : Timer
deriving DecidableEq, Repr

/-- The Roster: its entries, the presence timer, the presence pending mark and the first-presence mark. -/
structure Roster where
  entries : Table 16 RosterEntry
  presenceTimer : Timer
  presencePending : Bool
  firstPresence : Bool
deriving DecidableEq, Repr

/-! ### Link Controller (R128 to R142) -/

/-- A request of the urgent queue, keyed by kind and subject (R133). -/
inductive Request where
  | claim | reclaim | yield | tripped (g : Group) | release (g : Group)
deriving DecidableEq, Repr

/-- The class of pending work (R135). -/
inductive LinkClass where
  | urgent | normal | background
deriving DecidableEq, Repr

/-- The class and the offset in slots taken at an idle event (R136). -/
structure Deferral where
  linkClass : LinkClass
  offset : Nat
deriving DecidableEq, Repr

/-- What the station is sending (R125, R140, R141, R143). -/
inductive Transmission where
  /-- Nothing. -/
  | idle
  /-- A frame, which is on the link until its end delimiter has ended (R140). -/
  | frame (f : Frame)
  /-- The jam of the station's own collision (R141). -/
  | jam
  /-- The jam that a RESTART sends or lets run to its end (R143). -/
  | resetJam
deriving DecidableEq, Repr

/-- The Link Controller. -/
structure Link where
  /-- The urgent queue, head first (R133). -/
  urgent : List Request
  normalAnchor : Station
  backgroundAnchor : Station
  /-- The rejected-frame count (R129). -/
  rejected : Nat
  /-- The consecutive-failure count (R142). -/
  failures : Nat
  /-- The deferral in progress (R136, R138). -/
  deferral : Option Deferral
  transmission : Transmission
  /-- LTXEN is asserted (R125). -/
  ltxen : Bool
  /-- A completed frame whose loopback is still to be taken (R132). -/
  loopback : Option Frame
  /-- A frame whose loopback has been taken and whose completion is still to be taken: it has ended on the link (R132, R140). -/
  completion : Option Frame
  /-- The episode present as the receiver was switched on, which it ignores (R127). -/
  ignoring : Bool
  /-- The station has ended its jam, and the episode in which it collided has not been seen to end: jams may overlap on the
  line (R128, R141; DEDUCED, log entry 22). -/
  jammed : Bool
deriving DecidableEq, Repr

/-! ### Event Queue (R160 to R164) -/

/-- The reason of a SAMPLE_REJECTED event (R25, R26). -/
inductive RejectReason where
  | illegalInput | unmapped | short
deriving DecidableEq, Repr

/-- The reason a release is refused (R105, R107, R109). -/
inductive RefusedReason where
  | satisfied | noBasis
deriving DecidableEq, Repr

/-- How a point was acquired (R71). -/
inductive AcquirePath where
  | claim | yield
deriving DecidableEq, Repr

/-- How a point was released (R70). -/
inductive ReleaseDetail where
  | demoted | yielded
deriving DecidableEq, Repr

/-- The sixteen event kinds with their subjects and details (R161). -/
inductive Event where
  | groupTripped (g : Group) (cause : Cause)
  | groupReleased (g : Group) (requester : Station)
  | groupReleaseRefused (g : Group) (requester : Station) (reason : RefusedReason)
  | groupFault (g : Group)
  | groupFaultEnded (g : Group)
  | pointStale (p : Point)
  | pointAcquired (p : Point) (epoch : Epoch) (path : AcquirePath)
  | pointReleased (p : Point) (epoch : Epoch) (newOwner : Station) (detail : ReleaseDetail)
  | reclaimForced (p : Point)
  | epochLimit (p : Point)
  | stationState (a : Station) (state : RosterState)
  | duplicateStation
  | linkIsolated
  | linkRestored
  | sampleRejected (input : Option (Fin 16)) (reason : RejectReason)
  | runEntered
deriving DecidableEq, Repr

/-- An event record: the event and the local time at which it was raised (R161). -/
structure EventRecord where
  event : Event
  time : Word
deriving DecidableEq, Repr

/-- The Event Queue: its records, oldest first, the overflow flag, the local time and the ATTN line. -/
structure EventQueue where
  records : List EventRecord
  overflow : Bool
  /-- The local time base (R160). -/
  time : Word
  /-- ATTN is asserted (R164). -/
  attn : Bool
deriving DecidableEq, Repr

/-! ### Management Port (R167) -/

/-- What a transaction shifts out on MISO after its command has been taken (R167). -/
inductive Miso where
  /-- MISO is at high impedance: RSTn is asserted, or MCSn has risen (R146, R167). -/
  | highImpedance
  /-- The response: the status byte and its data, and then 0x00 until MCSn rises. -/
  | response (bytes : List Byte)
deriving DecidableEq, Repr

/-- The Management Port. A command brings a whole transaction up to the moment its command is taken; the later rise of
MCSn is no command of the table, so `State.misoLevel` takes the level of MCSn (log entry 6). -/
structure Port where
  /-- MCSn was low as RSTn was released: the port waits for it to rise (R167). -/
  waiting : Bool
  miso : Miso
deriving DecidableEq, Repr

/-! ### The device -/

/-- The state of the device: its eleven blocks, and the queue of commands that wait, front first. -/
structure State where
  control : StationController
  sample : SampleInterface
  /-- The evaluator contexts by input number (R28). -/
  contexts : Table 8 Context
  /-- The mirror entries by point number (R1). -/
  mirror : Table 64 MirrorEntry
  voter : Voter
  custody : Custody
  publisher : Publisher
  roster : Roster
  link : Link
  events : EventQueue
  port : Port
  /-- The commands that wait, first in, first out (the MODEL's own). -/
  pending : List Instr
deriving DecidableEq, Repr

/-- The reasons a step can fault. The manual gives every command an effect in every state, so there are none. -/
inductive Fault where
deriving DecidableEq, Repr

/-- The reasons a step can be refused. -/
inductive Refusal where
  /-- Raised by `exec` alone, for a command of the table that has no meaning yet; safe. No arm raises it. -/
  | notModelled (mnemonic : String)
deriving DecidableEq, Repr

/-! ### The forms that power-up gives (R146) -/

/-- The CONFIG form of a context (R28). -/
def Context.configForm : Context :=
  { point := none, role := .idle, quality := .none, lastValue := none, hit := .none, candidate := none,
    assertProgress := 0, clearProgress := 0 }

/-- The empty hit latch (R18). -/
def Latch.empty : Latch := { high := false, low := false, inside := false }

/-- The CONFIG form of a mirror entry (R4). -/
def MirrorEntry.configForm : MirrorEntry :=
  { inUse := false, owner := none, epoch := 0, quality := .none, hit := .none, value := none,
    freshness := .stopped, age := 0, latch := Latch.empty }

/-- The CONFIG form of a group record (R47). -/
def GroupRecord.configForm : GroupRecord :=
  { state := .clear, cause := none, hitVotes := 0, clearVotes := 0, excluded := 0, confirm := .stopped,
    announceOwed := false, stamp := 0 }

/-- The voter's CONFIG form, with every trip line asserted (R47, R62). -/
def Voter.configForm : Voter := { groups := Table.fill GroupRecord.configForm, lines := 0b1111#4 }

/-- The custody table with no entries and the empty notice list (R72, R74). -/
def Custody.configForm : Custody := { table := Table.fill none, notices := [] }

/-- The reset form of a publication record (R89). -/
def PubRecord.resetForm : PubRecord :=
  { lastPublished := none, refresh := .stopped, carried := false, carriedValue := none, changed := false }

/-- The empty publish list and the publication records in reset form (R89). -/
def Publisher.resetForm : Publisher := { list := [], records := Table.fill PubRecord.resetForm }

/-- The CONFIG form of a roster entry (R113). -/
def RosterEntry.configForm : RosterEntry := { state := .absent, lastDigest := none, silence := .stopped }

/-- The Roster's CONFIG form (R113, R120, R121). -/
def Roster.configForm : Roster :=
  { entries := Table.fill RosterEntry.configForm, presenceTimer := .stopped, presencePending := false,
    firstPresence := false }

/-- The Link Controller's power-up form (R125, R129, R133, R137, R142). -/
def Link.configForm : Link :=
  { urgent := [], normalAnchor := 15, backgroundAnchor := 15, rejected := 0, failures := 0, deferral := none,
    transmission := .idle, ltxen := false, loopback := none, completion := none, ignoring := false,
    jammed := false }

/-- The Event Queue's power-up form (R160, R164, R166). -/
def EventQueue.configForm : EventQueue := { records := [], overflow := false, time := 0, attn := false }

/-- The Station Controller's power-up form (R145). -/
def StationController.powerUpForm : StationController :=
  { rstAsserted := false, state := .config, image := [], imagePresent := false, startError := .none,
    digest := 0, listen := .stopped, isolation := .stopped }

/-- The machine right after reset: power-up is over, RSTn is released, and every block holds its power-up form
(R146). RSTn released, SFS low and MCSn high are DESIGN CHOICES (log entries 23 and 17). -/
def State.reset : State :=
  { control := StationController.powerUpForm
    sample := { abandoned := false }
    contexts := Table.fill Context.configForm
    mirror := Table.fill MirrorEntry.configForm
    voter := Voter.configForm
    custody := Custody.configForm
    publisher := Publisher.resetForm
    roster := Roster.configForm
    link := Link.configForm
    events := EventQueue.configForm
    port := { waiting := false, miso := .highImpedance }
    pending := [] }

end Sys2Proof.Machine
end

