-- ==== Sys2Proof/Machine/Ops.lean ====
section
/-! DEFINITION. The named operations over the image store, the timers, the event queue, the urgent queue and
the block tables, which every meaning goes through. -/

namespace Sys2Proof.Machine

/-! ### The image store: bytes 0 to 1343, a byte not listed reads 0 (R145, R147) -/

/-- What a byte that no write has reached reads as: the value power-up and RSTn give it (R145, R147). -/
def Memory.unlisted : Byte := 0

/-- The byte at an address. -/
def Memory.read : List Host.Cell → Nat → Byte
  | [], _ => Memory.unlisted
  | (a, b) :: rest, k => if a = k then b else Memory.read rest k

/-- One byte written, in canonical form: a byte that reads as an unlisted one is not listed. -/
def Memory.write : List Host.Cell → Nat → Byte → List Host.Cell
  | [], k, v => if v = Memory.unlisted then [] else [(k, v)]
  | (a, b) :: rest, k, v =>
    if k < a then (if v = Memory.unlisted then (a, b) :: rest else (k, v) :: (a, b) :: rest)
    else if k = a then (if v = Memory.unlisted then rest else (a, v) :: rest)
    else (a, b) :: Memory.write rest k v

/-- Bytes written from an offset onwards (R147). -/
def Memory.writeAll (m : List Host.Cell) (k : Nat) : List Byte → List Host.Cell
  | [] => m
  | v :: vs => Memory.writeAll (Memory.write m k v) (k + 1) vs

/-- `n` bytes from an offset onwards (R170). -/
def Memory.readAll (m : List Host.Cell) (k : Nat) : Nat → List Byte
  | 0 => []
  | n + 1 => Memory.read m k :: Memory.readAll m (k + 1) n

/-- The listed addresses lie above `lo`, rise strictly, and none holds the unlisted value. -/
def Memory.wfAbove : Nat → List Host.Cell → Bool
  | _, [] => true
  | lo, (a, b) :: rest => decide (lo ≤ a) && b != Memory.unlisted && Memory.wfAbove (a + 1) rest

/-- The canonical form of the image store, with every listed byte inside the image (R177). -/
def Memory.wf (m : List Host.Cell) : Bool := Memory.wfAbove 0 m && m.all (fun c => decide (c.1 < Config.imageBytes))

/-! ### Timers of the 1 ms local time base (R160) -/

/-- A timer that starts begins its full duration (00_scope.md, 5). -/
def Timer.start (duration : Nat) : Timer := .running duration

/-- One millisecond of the local time base. -/
def Timer.tick : Timer → Timer
  | .stopped => .stopped
  | .running n => .running (n - 1)

/-- Whether the full duration has passed since the start, so that the timer expires. -/
def Timer.due : Timer → Bool
  | .stopped => false
  | .running n => n == 0

/-- The whole milliseconds left; 0 for a stopped timer. -/
def Timer.left : Timer → Nat
  | .stopped => 0
  | .running n => n

/-- One millisecond of the local time base; a held timer counts no time (R86). -/
def Holdoff.tick : Holdoff → Holdoff
  | .stopped => .stopped
  | .running n => .running (n - 1)
  | .held => .held

/-- Whether a running holdoff timer expires; a held one has no expiry (R86). -/
def Holdoff.due : Holdoff → Bool
  | .stopped => false
  | .running n => n == 0
  | .held => false

/-! ### The image's fields, read without copying (R1, R44, R177) -/

/-- Image byte `a`. -/
def imageByte (m : List Host.Cell) (a : Nat) : Byte := Memory.read m a

/-- Image bytes `a` and `a + 1` as a 16-bit quantity (R172). -/
def imageHalf (m : List Host.Cell) (a : Nat) : Half := Half.ofBytes (Memory.read m a) (Memory.read m (a + 1))

/-- The station a byte names: 0xFF and every other value above 15 name none (R172, R177). -/
def stationOfByte (b : Byte) : Option Station := if h : b.toNat < 16 then some ⟨b.toNat, h⟩ else none

/-- The point a byte names: 0xFF and every other value above 63 name none (R172, R177). -/
def pointOfByte (b : Byte) : Option Point := if h : b.toNat < 64 then some ⟨b.toNat, h⟩ else none

/-- The group a byte names: a value above 15 names none. -/
def groupOfByte (b : Byte) : Option Group := if h : b.toNat < 16 then some ⟨b.toNat, h⟩ else none

/-- This station's own number: image byte 1 as validated, hence its low four bits (R145, R150). -/
def ownStation (m : List Host.Cell) : Station := ((imageByte m 1).extractLsb' 0 4).toFin

/-- The point that the input map binds to an input (R177). -/
def inputMap (m : List Host.Cell) (i : Input) : Option Point := pointOfByte (imageByte m (2 + i.val))

/-- The trip-line mask of a group: bit n is TRIPn (R45, R177). -/
def lineMask (m : List Host.Cell) (g : Group) : BitVec 4 :=
  (imageByte m (10 + g.val / 2)).extractLsb' (4 * (g.val % 2)) 4

/-- The event mask (R162, R177). -/
def eventMask (m : List Host.Cell) : Half := imageHalf m 18

/-- The presence interval P in milliseconds (R177). -/
def presenceInterval (m : List Host.Cell) : Nat := (imageByte m 32).toNat

/-- The silence multiple (R177). -/
def silenceMultiple (m : List Host.Cell) : Nat := (imageByte m 33).toNat

/-- The reclaim holdoff in units of 100 ms (R177). -/
def reclaimHoldoff (m : List Host.Cell) : Nat := (imageByte m 34).toNat

/-- The silence limit: P × silence multiple; the listen time equals it (00_scope.md, 1.2). -/
def silenceLimit (m : List Host.Cell) : Nat := presenceInterval m * silenceMultiple m

/-- The isolation hold: 2 × silence limit (00_scope.md, 1.2). -/
def isolationHold (m : List Host.Cell) : Nat := 2 * silenceLimit m

/-- The reclaim wait: 2 × P (R85). -/
def reclaimWaitTime (m : List Host.Cell) : Nat := 2 * presenceInterval m

/-- The compare modes (R31). -/
inductive CompareMode where
  | above | below | inside | outside
deriving DecidableEq, Repr

/-- The publish modes (R1). -/
inductive PublishMode where
  | full | hitOnly | valueOnly
deriving DecidableEq, Repr

/-- A point descriptor (R177). `publishCode` is the raw code, since 3 names no mode. -/
structure PointDesc where
  home : Byte
  standby : Byte
  compare : CompareMode
  publishCode : BitVec 2
  assertCount : Nat
  clearCount : Nat
  lower : Half
  upper : Half
  margin : Nat
  freshness : Nat
  deadband : Nat
deriving DecidableEq, Repr

/-- The compare mode of a code; every code names one (R151, R177). -/
def compareOfCode (c : BitVec 2) : CompareMode :=
  if c = 0 then .above else if c = 1 then .below else if c = 2 then .inside else .outside

/-- The publish mode of a code; 3 names none (R177). -/
def publishOfCode (c : BitVec 2) : Option PublishMode :=
  if c = 0 then some .full else if c = 1 then some .hitOnly else if c = 2 then some .valueOnly else none

/-- The descriptor of a point (R177). -/
def pointDesc (m : List Host.Cell) (p : Point) : PointDesc :=
  let a := 64 + 16 * p.val
  { home := imageByte m a
    standby := imageByte m (a + 1)
    compare := compareOfCode ((imageByte m (a + 2)).extractLsb' 0 2)
    publishCode := (imageByte m (a + 2)).extractLsb' 4 2
    assertCount := ((imageByte m (a + 3)).extractLsb' 4 4).toNat
    clearCount := ((imageByte m (a + 3)).extractLsb' 0 4).toNat
    lower := imageHalf m (a + 4)
    upper := imageHalf m (a + 6)
    margin := (imageHalf m (a + 8)).toNat
    freshness := (imageHalf m (a + 10)).toNat
    deadband := (imageHalf m (a + 12)).toNat }

/-- A point is in use when its home byte is not 0xFF (R151). -/
def PointDesc.used (d : PointDesc) : Bool := d.home != 0xFF

/-- The home station of a point (R151): none for an unused point. -/
def PointDesc.homeStation (d : PointDesc) : Option Station := stationOfByte d.home

/-- The standby station of a point, if it has one (R151). -/
def PointDesc.standbyStation (d : PointDesc) : Option Station := stationOfByte d.standby

/-- The publish mode. Validation leaves no descriptor in use with a code that names no mode (R151). -/
def PointDesc.publish (d : PointDesc) : PublishMode := (publishOfCode d.publishCode).getD .full

/-- The refresh time: half the freshness limit, rounded down, at least 1 ms (R92). -/
def PointDesc.refreshTime (d : PointDesc) : Nat := max 1 (d.freshness / 2)

/-- The stale policies (R44). -/
inductive StalePolicy where
  | asHit | asClear | shrink
deriving DecidableEq, Repr

/-- A group descriptor (R44, R177). `policyCode` is the raw code, since values above 2 name no policy. -/
structure GroupDesc where
  memberCount : Nat
  k : Nat
  policyCode : Byte
  announce : Bool
  follow : Bool
  faultAsserts : Bool
  confirm : Nat
  /-- The eight member entries. -/
  entries : List Byte
deriving DecidableEq, Repr

/-- The stale policy of a code (R177). -/
def policyOfCode (c : Byte) : Option StalePolicy :=
  if c = 0 then some .asHit else if c = 1 then some .asClear else if c = 2 then some .shrink else none

/-- The descriptor of a group (R177). -/
def groupDesc (m : List Host.Cell) (g : Group) : GroupDesc :=
  let a := 1088 + 16 * g.val
  { memberCount := (imageByte m a).toNat
    k := (imageByte m (a + 1)).toNat
    policyCode := imageByte m (a + 2)
    announce := (imageByte m (a + 3)).getLsbD 0
    follow := (imageByte m (a + 3)).getLsbD 1
    faultAsserts := (imageByte m (a + 3)).getLsbD 2
    confirm := (imageHalf m (a + 4)).toNat
    entries := Memory.readAll m (a + 6) 8 }

/-- A group is used when its member count is above 0 (R44, R152). -/
def GroupDesc.used (d : GroupDesc) : Bool := d.memberCount != 0

/-- The member points: the first member-count entries (R152). -/
def GroupDesc.members (d : GroupDesc) : List Point := (d.entries.take d.memberCount).filterMap pointOfByte

/-- The stale policy. Validation leaves no used group with a code that names no policy (R152). -/
def GroupDesc.policy (d : GroupDesc) : StalePolicy := (policyOfCode d.policyCode).getD .asHit

/-! ### Views of the state -/

/-- This station's own number. -/
def State.own (s : State) : Station := ownStation s.control.image

/-- The descriptor of a point. -/
def State.desc (s : State) (p : Point) : PointDesc := pointDesc s.control.image p

/-- The descriptor of a group. -/
def State.groupDesc (s : State) (g : Group) : GroupDesc := Sys2Proof.Machine.groupDesc s.control.image g

/-- LISTEN, RUN or ISOLATED: the states in which the runtime blocks act. -/
def StationState.runtime : StationState → Bool
  | .config | .validating => false
  | .listen | .run | .isolated => true

/-- RSTn is released and the station is in LISTEN, RUN or ISOLATED. -/
def State.active (s : State) : Bool := !s.control.rstAsserted && s.control.state.runtime

/-! ### Updates of one cell -/

/-- One mirror entry replaced. -/
def State.setEntry (s : State) (p : Point) (e : MirrorEntry) : State := { s with mirror := s.mirror.set p e }

/-- One context replaced. -/
def State.setContext (s : State) (i : Input) (c : Context) : State := { s with contexts := s.contexts.set i c }

/-- One group record replaced. -/
def State.setGroup (s : State) (g : Group) (r : GroupRecord) : State :=
  { s with voter := { s.voter with groups := s.voter.groups.set g r } }

/-- One custody entry replaced. -/
def State.setCustody (s : State) (i : Input) (c : CustodyEntry) : State :=
  { s with custody := { s.custody with table := s.custody.table.set i (some c) } }

/-- The custody table replaced. -/
def State.withTable (s : State) (t : Table 8 (Option CustodyEntry)) : State :=
  { s with custody := { s.custody with table := t } }

/-- The notice list replaced. -/
def State.withNotices (s : State) (l : List Notice) : State :=
  { s with custody := { s.custody with notices := l } }

/-- The publish list replaced. -/
def State.withPublishList (s : State) (l : List Point) : State :=
  { s with publisher := { s.publisher with list := l } }

/-- One publication record replaced. -/
def State.setPub (s : State) (p : Point) (r : PubRecord) : State :=
  { s with publisher := { s.publisher with records := s.publisher.records.set p r } }

/-- One roster entry replaced. -/
def State.setRoster (s : State) (a : Station) (r : RosterEntry) : State :=
  { s with roster := { s.roster with entries := s.roster.entries.set a r } }

/-! ### Events (R161 to R164) -/

/-- The kind code of an event: the order of the kind table of R161 (R178). -/
def Event.code : Event → Nat
  | .groupTripped .. => 0 | .groupReleased .. => 1 | .groupReleaseRefused .. => 2 | .groupFault _ => 3
  | .groupFaultEnded _ => 4 | .pointStale _ => 5 | .pointAcquired .. => 6 | .pointReleased .. => 7
  | .reclaimForced _ => 8 | .epochLimit _ => 9 | .stationState .. => 10 | .duplicateStation => 11
  | .linkIsolated => 12 | .linkRestored => 13 | .sampleRejected .. => 14 | .runEntered => 15

/-- A record offered to the event queue: it joins the tail, or is discarded and sets the overflow flag (R163). -/
def EventQueue.record (q : EventQueue) (e : Event) : EventQueue :=
  if q.records.length < Config.eventCapacity then
    { q with records := q.records ++ [{ event := e, time := q.time }], attn := true }
  else { q with overflow := true }

/-- An event raised: recorded when the event mask lets its kind through (R162). -/
def raise (e : Event) (s : State) : State :=
  if (eventMask s.control.image).getLsbD e.code then { s with events := s.events.record e } else s

/-! ### The urgent queue (R133) -/

/-- A request offered: `none` where the queue refuses it (R133). -/
def offerTo (q : List Request) (r : Request) : Option (List Request) :=
  if q.contains r then some q else if q.length < Config.urgentCapacity then some (q ++ [r]) else none

/-- The urgent queue replaced. -/
def State.withUrgent (s : State) (q : List Request) : State := { s with link := { s.link with urgent := q } }

/-- A request offered and the refusal left to the owner's marks (R75). -/
def offer (r : Request) (s : State) : State :=
  match offerTo s.link.urgent r with
  | some q => s.withUrgent q
  | none => s

/-! ### The notice list (R72) -/

/-- The first notice for the same point replaced in place; `none` where there is none (R72). -/
def replaceNotice (n : Notice) : List Notice → Option (List Notice)
  | [] => none
  | x :: xs => if x.point = n.point then some (n :: xs) else (replaceNotice n xs).map (x :: ·)

/-- A notice placed: in place of the point's entry, at the tail, or discarded (R72). -/
def placeIn (l : List Notice) (n : Notice) : List Notice :=
  match replaceNotice n l with
  | some l' => l'
  | none => if l.length < Config.noticeCapacity then l ++ [n] else l

/-! ### Answers of the management port (R167) -/

/-- The response bytes placed on MISO. -/
def State.answer (s : State) (bytes : List Byte) : State := { s with port := { s.port with miso := .response bytes } }

/-- MCSn has risen with no command taken: nothing is answered, and MISO is at high impedance (R167). -/
def State.unanswered (s : State) : State := { s with port := { s.port with miso := .highImpedance } }

/-- A host command: not taken while RSTn is asserted or while the port waits for MCSn to rise, which the end of
the ignored transaction brings (R146, R167); otherwise taken whole by `f`. -/
def hostCommand (f : State → State) (s : State) : State :=
  if s.control.rstAsserted then s
  else if s.port.waiting then { s with port := { waiting := false, miso := .highImpedance } }
  else f s

end Sys2Proof.Machine
end

