-- ==== Sys2Proof/Machine/Operands.lean ====
section
/-! DEFINITION. The operand forms of the commands: the bits of a sample frame (R24, R25, R176), the range checks of
management arguments (R168, R170, R178), and the content and debounce state that a received record names
(R10, R41, R131). -/

namespace Sys2Proof.Machine

/-! ### The sample word (R176) -/

/-- A sample word by its fields (R176). -/
structure SampleWord where
  /-- 0–15; 8–15 are illegal. -/
  input : Fin 16
  fault : Bool
  value : Half
deriving DecidableEq, Repr

/-- The number that bits spell, first bit most significant (R24). -/
def bitsNat (bits : List Bool) : Nat := bits.foldl (fun n b => 2 * n + b.toNat) 0

/-- The sample word of a frame of at least 24 bits: its first 24 bits (R24, R176). -/
def sampleWord (bits : List Bool) : SampleWord :=
  let w : BitVec 24 := BitVec.ofNat 24 (bitsNat (bits.take Config.sampleBits))
  { input := (w.extractLsb' 20 4).toFin, fault := w.getLsbD 19, value := w.extractLsb' 0 16 }

/-- The input number of a frame cut short, when it delivered at least the four bits of it (R25). -/
def shortInput (bits : List Bool) : Option (Fin 16) :=
  if Config.inputBits ≤ bits.length then some (BitVec.ofNat 4 (bitsNat (bits.take Config.inputBits))).toFin
  else none

/-- The local input of an input number; 8–15 are illegal (R26). -/
def localInput (n : Fin 16) : Option Input := if h : n.val < 8 then some ⟨n.val, h⟩ else none

/-! ### The range of an offset and a count in the image (R170) -/

/-- The count is not 0, and the offset plus the count stays within the image (R170). -/
def imageRange (off : Half) (count : Nat) : Bool :=
  count != 0 && decide (off.toNat + count ≤ Config.imageBytes)

/-! ### What a received record names (R10, R131) -/

/-- The content a record carries (R10). -/
structure Content where
  quality : Quality
  hit : Hit
  value : Option Half
deriving DecidableEq, Repr

/-- The debounce state a CLAIM or YIELD record carries (R41, R43). -/
structure Handover where
  candidate : Option Side
  assertProgress : Nat
  clearProgress : Nat
deriving DecidableEq, Repr

/-- The content of a record, for a point whose publish mode here is `m`: `none` for a record that is ignored whole,
because its status names no hit, or because it has quality GOOD and no value for a FULL or VALUE_ONLY point
(R10, R131). -/
def recordContent (m : PublishMode) (r : Record) : Option Content :=
  match hitOfCode r.hit with
  | none => none
  | some h =>
    if r.quality = .good ∧ r.value = none ∧ m ≠ .hitOnly then none
    else some { quality := r.quality, hit := h, value := r.value }

/-- The debounce state of a debounce pair: `none` when the pair names no side (R131). -/
def handoverOf (d : Debounce) : Option Handover :=
  (candidateOfCode d.candidate).map (fun c =>
    { candidate := c, assertProgress := d.assertProgress.toNat, clearProgress := d.clearProgress.toNat })

end Sys2Proof.Machine
end

