-- ==== Sys2Proof/Machine/Evaluator.lean ====
section
/-! DEFINITION. The Limit Evaluator (chapter 2): the evaluation of one sample at a context, and the custody content
and debounce state a context hands on and takes. -/

namespace Sys2Proof.Machine

/-! ### The condition side and the release zone (R32, R35) -/

/-- The condition side of a value: every comparison is strict (R32). -/
def conditionSide (d : PointDesc) (v : Int) : Option Side :=
  match d.compare with
  | .above => if d.upper.toInt < v then some .high else none
  | .below => if v < d.lower.toInt then some .low else none
  | .inside => if d.lower.toInt < v ∧ v < d.upper.toInt then some .inside else none
  | .outside => if d.upper.toInt < v then some .high else if v < d.lower.toInt then some .low else none

/-- A bound of the release zone, limited to −32768 to 32767 (R35). -/
def limited (x : Int) : Int := max (-32768) (min 32767 x)

/-- Whether a value lies in the release zone of the side held (R35). -/
def inReleaseZone (d : PointDesc) (held : Side) (v : Int) : Bool :=
  match held with
  | .high => decide (limited (d.upper.toInt - d.margin) < v)
  | .low => decide (v < limited (d.lower.toInt + d.margin))
  | .inside => decide (limited (d.lower.toInt - d.margin) < v) && decide (v < limited (d.upper.toInt + d.margin))

/-- Whether the hit held is a side whose release zone holds the value; CLEAR and NONE have no zone (R35). -/
def heldInZone (d : PointDesc) (h : Hit) (v : Int) : Bool :=
  match h with
  | .side x => inReleaseZone d x v
  | .clear => false
  | .none => false

/-! ### One sample (R33, R34, R36, R37, R38) -/

/-- A fault-flagged sample (R33). -/
def evaluateFaultFlag (c : Context) : Context :=
  { c with quality := .faulted, lastValue := none, candidate := none, assertProgress := 0, clearProgress := 0 }

/-- A good sample on a VALUE_ONLY point (R34). -/
def evaluateValueOnly (c : Context) (v : Half) : Context :=
  { c with quality := .good, lastValue := some v, hit := .none, candidate := none, assertProgress := 0, clearProgress := 0 }

/-- A good sample that meets no condition and is not held counts towards clearing (R36). -/
def countClear (d : PointDesc) (c : Context) : Context :=
  let n := min (c.clearProgress + 1) d.clearCount
  let c1 := { c with assertProgress := 0, candidate := none, clearProgress := n }
  if n = d.clearCount ∧ c.hit ≠ .clear then { c1 with hit := .clear, clearProgress := 0 } else c1

/-- A good sample whose condition side is the hit confirms it (R37). -/
def confirmHit (c : Context) : Context := { c with assertProgress := 0, clearProgress := 0, candidate := none }

/-- A good sample whose condition side is not the hit counts towards that side (R38). -/
def countAssert (d : PointDesc) (side : Side) (c : Context) : Context :=
  let n := if c.candidate = some side then c.assertProgress + 1 else 1
  let c1 := { c with clearProgress := 0, candidate := some side, assertProgress := n }
  if d.assertCount ≤ n then { c1 with hit := .side side, assertProgress := 0, candidate := none } else c1

/-- A good sample on an evaluated point (R36, R37, R38). -/
def evaluateLimits (d : PointDesc) (c : Context) (v : Half) : Context :=
  let c0 := { c with quality := .good, lastValue := some v }
  match conditionSide d v.toInt with
  | none => if heldInZone d c.hit v.toInt then c0 else countClear d c0
  | some side => if c.hit = .side side then confirmHit c0 else countAssert d side c0

/-- The evaluation of one sample at a bound context, the same in both roles (2.4). -/
def evaluateSample (d : PointDesc) (w : SampleWord) (c : Context) : Context :=
  if w.fault then evaluateFaultFlag c
  else if d.publish = .valueOnly then evaluateValueOnly c w.value
  else evaluateLimits d c w.value

/-! ### What a context hands on and takes (R41, R43) -/

/-- The sides a compare mode can produce (R32). -/
def CompareMode.produces : CompareMode → Side → Bool
  | .above, .high => true
  | .below, .low => true
  | .inside, .inside => true
  | .outside, .high => true
  | .outside, .low => true
  | .above, .low => false
  | .above, .inside => false
  | .below, .high => false
  | .below, .inside => false
  | .inside, .high => false
  | .inside, .low => false
  | .outside, .inside => false

/-- The hit loaded from a YIELD record (R43). -/
def loadedHit (d : PointDesc) (own carried : Hit) : Hit :=
  if d.publish = .valueOnly then .none else match carried with
    | .none => own
    | .clear => .clear
    | .side x => if d.compare.produces x then .side x else own

/-- The candidate loaded from a YIELD record, beside the loaded hit (R43). -/
def loadedCandidate (d : PointDesc) (hit : Hit) (c : Option Side) : Option Side :=
  match c with
  | none => none
  | some x => if d.publish ≠ .valueOnly ∧ d.compare.produces x ∧ hit ≠ .side x then some x else none

/-- A context that loads hit, candidate and progress from a YIELD record (R43). -/
def loadContext (d : PointDesc) (hit : Hit) (w : Handover) (c : Context) : Context :=
  let h := loadedHit d c.hit hit
  let cand := loadedCandidate d h w.candidate
  { c with
    hit := h
    candidate := cand
    assertProgress := if cand = none then 0 else min w.assertProgress (d.assertCount - 1)
    clearProgress :=
      if cand ≠ none ∨ d.publish = .valueOnly then 0
      else if h = .clear then min w.clearProgress d.clearCount
      else min w.clearProgress (d.clearCount - 1) }

/-- The first input whose context is bound to a point. -/
def State.boundInput (s : State) (p : Point) : Option Input :=
  (List.finRange 8).find? (fun i => (s.contexts.get i).point == some p)

/-- The context bound to a point at this station, if any. -/
def State.boundContext (s : State) (p : Point) : Option Context := (s.boundInput p).map s.contexts.get

/-- Every context bound to a point changed by the same function; validation binds at most one (R153). -/
def State.mapBound (s : State) (p : Point) (f : Context → Context) : State :=
  { s with contexts := s.contexts.map (fun c => if c.point = some p then f c else c) }

/-- Whether this station's context for a point is ACTING (R11). -/
def State.actsFor (s : State) (p : Point) : Bool :=
  match s.boundContext p with
  | some c => c.role == .acting
  | none => false

end Sys2Proof.Machine
end

