-- ==== Sys2Proof/Machine/Publisher.lean ====
section
/-! DEFINITION. The Publisher (chapter 5): when a point is due, the publish list, and what a POINT frame's assembly,
completion and collision do to it. -/

namespace Sys2Proof.Machine

/-- A due point placed: it joins the tail, keeps its place, or receives the changed mark (R94). -/
def makeDue (p : Point) (s : State) : State :=
  let r := s.publisher.records.get p
  if s.publisher.list.contains p then
    if r.carried then s.setPub p { r with changed := true } else s
  else s.withPublishList (s.publisher.list ++ [p])

/-- The reference value of the deadband test: the carried value while the point is carried, else the last
published value (R91). -/
def PubRecord.reference (r : PubRecord) : Option Half := if r.carried then r.carriedValue else r.lastPublished

/-- A value lies beyond the deadband of a reference (R91). The difference is computed in full. -/
def beyondDeadband (deadband : Nat) (ref : Option Half) (v : Half) : Bool :=
  match ref with
  | none => true
  | some w => decide (deadband < (v.toInt - w.toInt).natAbs)

/-- The three conditions a passed change is tested against (R90). `q0`, `h0` are the quality and hit before the
event, `e` is the entry after it. -/
def changeDue (d : PointDesc) (r : PubRecord) (q0 : Quality) (h0 : Hit) (e : MirrorEntry) : Bool :=
  (e.hit != h0 && d.publish != .valueOnly) ||
  e.quality != q0 ||
  (d.publish != .hitOnly && e.quality == .good &&
    match e.value with
    | some v => beyondDeadband d.deadband r.reference v
    | none => false)

/-- A change passed to the Publisher (R21, R90). -/
def passToPublisher (p : Point) (q0 : Quality) (h0 : Hit) (s : State) : State :=
  if changeDue (s.desc p) (s.publisher.records.get p) q0 h0 (s.mirror.get p) then makeDue p s else s

/-- A demoted point leaves the publish list, and its record returns to reset form (R99). -/
def unpublish (p : Point) (s : State) : State :=
  (s.withPublishList (s.publisher.list.filter (· != p))).setPub p PubRecord.resetForm

/-- The refresh timer of a point expires (R92). -/
def refreshExpiry (p : Point) (s : State) : State :=
  let r := s.publisher.records.get p
  if s.active && r.refresh.due then makeDue p (s.setPub p { r with refresh := .stopped }) else s

/-! ### POINT frames (R95 to R98) -/

/-- The record of a point, from its mirror entry as it stands (R96). -/
def pointRecord (d : PointDesc) (p : Point) (e : MirrorEntry) : Record :=
  { point := BitVec.ofNat 8 p.val, epoch := e.epoch, quality := e.quality,
    hit := if d.publish = .valueOnly then hitCode .none else hitCode e.hit, value := e.value }

/-- A point taken into a payload: carried, its changed mark clear, with the value of its record (R95). -/
def markCarried (s : State) (p : Point) : State :=
  s.setPub p { s.publisher.records.get p with carried := true, carriedValue := (s.mirror.get p).value, changed := false }

/-- The POINT payload: up to 8 points from the head of the list, read from the mirror; `none` when the list is
empty (R95). -/
def assemblePoint (s : State) : State × Option Payload :=
  let ps := s.publisher.list.take Config.recordsPerFrame
  if ps.isEmpty then (s, none)
  else (ps.foldl markCarried s, some (.point (ps.map (fun p => pointRecord (s.desc p) p (s.mirror.get p)))))

/-- A carried point at the completion of its frame (R97). -/
def publishedPoint (s : State) (p : Point) : State :=
  let r := s.publisher.records.get p
  if r.carried then
    let s1 := s.setPub p
      { lastPublished := r.carriedValue, refresh := Timer.start (s.desc p).refreshTime, carried := false,
        carriedValue := none, changed := false }
    if r.changed then s1
    else s1.withPublishList (s1.publisher.list.filter (· != p))
  else s

/-- A carried point at the collision of its frame (R98). -/
def collidedPoint (s : State) (p : Point) : State :=
  let r := s.publisher.records.get p
  s.setPub p { r with carried := false, carriedValue := none, changed := false }

/-- The points of a POINT frame's records, in frame order. -/
def recordPoints (rs : List Record) : List Point := rs.filterMap (fun r => pointOfByte r.point)

/-- A POINT frame of this station completes (R97). -/
def completePoint (rs : List Record) (s : State) : State := (recordPoints rs).foldl publishedPoint s

/-- A POINT frame of this station collides (R98). -/
def collidePoint (rs : List Record) (s : State) : State := (recordPoints rs).foldl collidedPoint s

end Sys2Proof.Machine
end

