-- ==== Sys2Proof/Machine/Voter.lean ====
section
/-! DEFINITION. The Group Voter: counting votes, the group state machine, announcements and trip lines
(chapter 3), and the taking of TRIP frames (chapter 6). -/

namespace Sys2Proof.Machine

/-! ### Counting (R49, R50) -/

/-- How a member is counted (R49). -/
inductive Vote where
  | hit | clear | excluded
deriving DecidableEq, Repr

/-- The vote of a member without good content (R49). -/
def StalePolicy.vote : StalePolicy → Vote
  | .asHit => .hit
  | .asClear => .clear
  | .shrink => .excluded

/-- The vote of a member with the content its entry holds (R49). -/
def memberVote (policy : StalePolicy) (q : Quality) (h : Hit) : Vote :=
  match q, h with
  | .good, .side _ => .hit
  | .good, .clear => .clear
  | .good, .none => policy.vote
  | .none, _ => policy.vote
  | .faulted, _ => policy.vote
  | .stale, _ => policy.vote

/-- The votes of a group's members, from one view of the mirror (R49). -/
def votes (d : GroupDesc) (mirror : Table 64 MirrorEntry) : List Vote :=
  d.members.map (fun p => memberVote d.policy (mirror.get p).quality (mirror.get p).hit)

/-- The counted size n: the member count less the excluded members (R50). -/
def countedSize (d : GroupDesc) (r : GroupRecord) : Nat := d.memberCount - r.excluded

/-- The required number: the smaller of k and n (R50). -/
def required (d : GroupDesc) (r : GroupRecord) : Nat := min d.k (countedSize d r)

/-- The group is satisfied, by the counts its record holds (R50). -/
def satisfied (d : GroupDesc) (r : GroupRecord) : Bool :=
  decide (0 < countedSize d r) && decide (required d r ≤ r.hitVotes)

/-- The group has no basis, by the counts its record holds (R50). -/
def noBasis (d : GroupDesc) (r : GroupRecord) : Bool := countedSize d r == 0

/-- The counts of an evaluation (R46, R49). -/
def GroupRecord.count (r : GroupRecord) (vs : List Vote) : GroupRecord :=
  { r with hitVotes := vs.count .hit, clearVotes := vs.count .clear, excluded := vs.count .excluded }

/-! ### The trip lines (R61, R62) -/

/-- Whether a group asserts the lines of its mask (R61). The flags of an unused group count as clear (R44). -/
def asserting (d : GroupDesc) (r : GroupRecord) : Bool :=
  match r.state with
  | .tripped => true
  | .fault => d.used && d.faultAsserts
  | .clear => false
  | .arming => false

/-- The lines the groups assert together (R61). -/
def groupLines (m : List Host.Cell) (groups : Table 16 GroupRecord) : BitVec 4 :=
  (List.finRange 16).foldl
    (fun l g => if asserting (groupDesc m g) (groups.get g) then l ||| lineMask m g else l) 0

/-- The levels of TRIP0–TRIP3: every line asserted in reset, CONFIG and VALIDATING, and as the groups give in the
other states (R61, R62, R146). -/
def State.lineLevels (s : State) : BitVec 4 :=
  if s.active then groupLines s.control.image s.voter.groups else 0b1111#4

/-- The trip lines set from the group records (R61). -/
def setLines (s : State) : State := { s with voter := { s.voter with lines := s.lineLevels } }

/-! ### Announcing a local trip (R59) -/

/-- The request TRIP/TRIPPED(g) offered; a refusal sets the group's announce owed mark (R59). -/
def announce (g : Group) (s : State) : State :=
  match offerTo s.link.urgent (.tripped g) with
  | some q => s.withUrgent q
  | none => s.setGroup g { s.voter.groups.get g with announceOwed := true }

/-! ### The group state machine (R52 to R57) -/

/-- The group's record placed with a new state and time stamp, the confirm timer stopped, and the lines set. -/
def enterState (g : Group) (st : GroupState) (s : State) : State :=
  setLines (s.setGroup g
    { s.voter.groups.get g with
      state := st, cause := none, confirm := .stopped, stamp := s.events.time, announceOwed := false })

/-- The group enters TRIPPED (R55). GROUP_FAULT_ENDED has been raised already when the group left FAULT at an
evaluation (R57), and is raised here when a TRIPPED frame takes the group out of FAULT. -/
def enterTripped (g : Group) (c : Cause) (s : State) : State :=
  let s1 := setLines (s.setGroup g
    { s.voter.groups.get g with state := .tripped, cause := some c, confirm := .stopped, stamp := s.events.time })
  let s2 := if (s.voter.groups.get g).state = .fault then raise (.groupFaultEnded g) s1 else s1
  let s3 := raise (.groupTripped g c) s2
  if c = .localTrip ∧ (s.groupDesc g).announce then announce g s3 else s3

/-- The group enters ARMING: the confirm timer starts (R52). -/
def enterArming (g : Group) (s : State) : State :=
  setLines (s.setGroup g
    { s.voter.groups.get g with
      state := .arming, cause := none, confirm := Timer.start (s.groupDesc g).confirm, stamp := s.events.time })

/-- The group enters FAULT (R57). -/
def enterFault (g : Group) (s : State) : State := raise (.groupFault g) (enterState g .fault s)

/-- A group in CLEAR with its new counts moves by R52. -/
def evaluateClear (g : Group) (s : State) : State :=
  let d := s.groupDesc g
  let r := s.voter.groups.get g
  if satisfied d r then (if d.confirm = 0 then enterTripped g .localTrip s else enterArming g s)
  else if noBasis d r then enterFault g s
  else s

/-- A group in ARMING with its new counts moves by R53. -/
def evaluateArming (g : Group) (s : State) : State :=
  let d := s.groupDesc g
  let r := s.voter.groups.get g
  if satisfied d r then s
  else if noBasis d r then enterFault g s
  else enterState g .clear s

/-- A group in FAULT with its new counts moves by R57: a group whose basis returns is taken through R52 in the
same evaluation. -/
def evaluateFault (g : Group) (s : State) : State :=
  if noBasis (s.groupDesc g) (s.voter.groups.get g) then s
  else evaluateClear g (raise (.groupFaultEnded g) (enterState g .clear s))

/-- One evaluation of a group: its counts are set, and the rule of its present state is applied (R51). An unused
group is never evaluated (R44). -/
def evaluate (g : Group) (s : State) : State :=
  let d := s.groupDesc g
  if d.used then
    let r := s.voter.groups.get g
    let s1 := s.setGroup g (r.count (votes d s.mirror))
    match r.state with
    | .clear => evaluateClear g s1
    | .arming => evaluateArming g s1
    | .fault => evaluateFault g s1
    | .tripped => s1
  else s

/-- A point passed to the voter: each used group that has it as a member is evaluated, in increasing group
number (R51). -/
def passToVoter (p : Point) (s : State) : State :=
  (List.finRange 16).foldl
    (fun s g => if (s.groupDesc g).used && (s.groupDesc g).members.contains p then evaluate g s else s) s

/-- The confirm timer of a group in ARMING expires (R54). -/
def confirmExpiry (g : Group) (s : State) : State :=
  let r := s.voter.groups.get g
  if s.active && r.confirm.due && (r.state == .arming) then enterTripped g .localTrip s else s

/-! ### Received TRIP frames (R102 to R110) -/

/-- A TRIPPED frame for a used group from station `a` (R103); the station's own changes nothing (R104). -/
def takeTripped (a : Station) (own : Bool) (g : Group) (s : State) : State :=
  if own then s
  else if (s.groupDesc g).follow && ((s.voter.groups.get g).state != .tripped) then enterTripped g (.remote a) s
  else s

/-- A release accepted (R108): the group returns to CLEAR and is evaluated afresh. -/
def acceptRelease (a : Station) (g : Group) (s : State) : State :=
  evaluate g (raise (.groupReleased g a) (enterState g .clear s))

/-- A release refused (R109): the event is raised, and with ANNOUNCE the trip is announced again. -/
def refuseRelease (a : Station) (g : Group) (why : RefusedReason) (s : State) : State :=
  let s1 := raise (.groupReleaseRefused g a why) s
  if (s.groupDesc g).announce then announce g s1 else s1

/-- A RELEASE frame for a used group from station `a` (R108, R109, R110). -/
def takeRelease (a : Station) (g : Group) (s : State) : State :=
  let d := s.groupDesc g
  let r := s.voter.groups.get g
  if r.state = .tripped then
    if satisfied d r then refuseRelease a g .satisfied s
    else if noBasis d r then refuseRelease a g .noBasis s
    else acceptRelease a g s
  else s

/-- A TRIP frame by its group number and subkind (R102). -/
def takeTrip (a : Station) (own : Bool) (group subkind : Byte) (s : State) : State :=
  match groupOfByte group with
  | none => s
  | some g =>
    if (s.groupDesc g).used then
      if subkind = 1 then takeTripped a own g s
      else if subkind = 2 then takeRelease a g s
      else s
    else s

/-! ### Departures (R60) -/

/-- The voter offers again the TRIPPED requests that are owed, in increasing group number, until the queue
refuses an offer; the flag tells whether it has (R60). -/
def reofferTripped (s : State) : State :=
  ((List.finRange 16).foldl
    (fun (acc : State × Bool) g =>
      let r := acc.1.voter.groups.get g
      if acc.2 || !r.announceOwed then acc
      else if r.state = .tripped then
        match offerTo acc.1.link.urgent (.tripped g) with
        | some q => ((acc.1.setGroup g { r with announceOwed := false }).withUrgent q, false)
        | none => (acc.1, true)
      else (acc.1.setGroup g { r with announceOwed := false }, false))
    (s, false)).1

end Sys2Proof.Machine
end

