-- ==== Sys2Proof/Machine/Mirror.lean ====
section
/-! DEFINITION. The Point Mirror (chapter 1): content writes, freshness expiry, the hit latch, and the passing on of
changes. -/

namespace Sys2Proof.Machine

/-- A side joins the latch (R18). -/
def Latch.add (l : Latch) : Side → Latch
  | .high => { l with high := true }
  | .low => { l with low := true }
  | .inside => { l with inside := true }

/-- The latch that holds the side of a hit alone: empty for CLEAR and NONE (R19). -/
def Latch.ofHit : Hit → Latch
  | .none => Latch.empty
  | .clear => Latch.empty
  | .side x => Latch.empty.add x

/-- The latch after a content write takes the hit from `h0` to `h` (R18). -/
def Latch.afterWrite (l : Latch) (h0 h : Hit) : Latch :=
  if h = h0 then l else match h with
    | .none => l
    | .clear => l
    | .side x => l.add x

/-- A change passed on after a mirror event that found quality `q0` and hit `h0`: to the Group Voter when quality or
hit differ, and to the Publisher when this station owns the entry (R20, R21, R22). -/
def passOn (p : Point) (q0 : Quality) (h0 : Hit) (s : State) : State :=
  let e := s.mirror.get p
  let s1 := if e.quality = q0 ∧ e.hit = h0 then s else passToVoter p s
  if e.owner = some s.own then passToPublisher p q0 h0 s1 else s1

/-- An entry after a content write: the fields together, then the latch; the freshness timer starts and the age
returns to 0 (R14, R17, R18, R22). -/
def MirrorEntry.written (e : MirrorEntry) (limit : Nat) (q : Quality) (h : Hit) (v : Option Half) : MirrorEntry :=
  { e with quality := q, hit := h, value := v, freshness := Timer.start limit, age := 0, latch := e.latch.afterWrite e.hit h }

/-- A content write (R1): the entry takes its fields, and the change is passed on (R22). -/
def contentWrite (p : Point) (q : Quality) (h : Hit) (v : Option Half) (s : State) : State :=
  let e := s.mirror.get p
  passOn p e.quality e.hit (s.setEntry p (e.written (s.desc p).freshness q h v))

/-- The value a context's content carries: its last value when its quality is GOOD and the publish mode is not
HIT_ONLY (R7, R8, R41). -/
def contextValue (d : PointDesc) (c : Context) : Option Half :=
  if c.quality = .good ∧ d.publish ≠ .hitOnly then c.lastValue else none

/-- The sample write (R7) and the promotion write (R8): the context's present state placed in the entry. -/
def writeFromContext (p : Point) (c : Context) (s : State) : State :=
  contentWrite p c.quality c.hit (contextValue (s.desc p) c) s

/-- The hit a record write places (R10). -/
def recordHit (m : PublishMode) (held carried : Hit) : Hit :=
  if m = .valueOnly then .none else match carried with
    | .none => held
    | .clear => .clear
    | .side x => .side x

/-- The value a record write places (R10). -/
def recordValue (m : PublishMode) (c : Content) : Option Half :=
  if (c.quality = .good ∨ c.quality = .stale) ∧ m ≠ .hitOnly then c.value else none

/-- The record write (R10). -/
def recordWrite (p : Point) (c : Content) (s : State) : State :=
  let m := (s.desc p).publish
  contentWrite p c.quality (recordHit m (s.mirror.get p).hit c.hit) (recordValue m c) s

/-- The freshness timer of an entry expires (R15): the timer stops, and a GOOD or FAULTED entry becomes STALE. -/
def freshnessExpired (p : Point) (s : State) : State :=
  let e := s.mirror.get p
  if s.active && e.freshness.due then
    match e.quality with
    | .good | .faulted =>
      passOn p e.quality e.hit
        (raise (.pointStale p) (s.setEntry p { e with quality := .stale, freshness := .stopped }))
    | .none | .stale => s.setEntry p { e with freshness := .stopped }
  else s

/-- CLEAR-LATCH on an entry in use (R19). -/
def clearLatch (p : Point) (s : State) : State :=
  let e := s.mirror.get p
  s.setEntry p { e with latch := Latch.ofHit e.hit }

end Sys2Proof.Machine
end

