-- ==== Sys2Proof/Machine/Custody.lean ====
section
/-! DEFINITION. The Custody Controller (chapter 4): the acceptance rule and its effects, the notice list, the custody
triggers, and the assembly and ending of CLAIM, RECLAIM and YIELD frames. -/

namespace Sys2Proof.Machine

/-! ### The acceptance rule (R66, R67) -/

/-- What the acceptance rule decides. An accepted assertion gives the owner and the epoch the mirror takes; `notice`
tells whether the decision places a notice. -/
inductive Verdict where
  | foreign
  | rejected (notice : Bool)
  | accepted (owner : Station) (epoch : Epoch) (notice : Bool)
deriving DecidableEq, Repr

/-- The greater of two epochs. -/
def maxEpoch (m e : Epoch) : Epoch := if m.toNat < e.toNat then e else m

/-- A station is the home or the standby of a point. -/
def PointDesc.serves (d : PointDesc) (a : Station) : Bool := d.homeStation == some a || d.standbyStation == some a

/-- The acceptance rule for an assertion (S, P, e) that is not from a YIELD record (R66). An assertion that comes from
a notice places none. -/
def acceptance (d : PointDesc) (entry : MirrorEntry) (a : Station) (e : Epoch) (fromNotice : Bool) : Verdict :=
  if entry.inUse = false ∨ d.serves a = false then .foreign
  else if entry.owner = some a then
    .accepted a (maxEpoch entry.epoch e) (!fromNotice && decide (e.toNat < entry.epoch.toNat))
  else if entry.epoch.toNat < e.toNat then .accepted a e false
  else if e = entry.epoch ∧ d.homeStation = some a ∧ entry.owner = d.standbyStation then .accepted a e false
  else .rejected (!fromNotice)

/-- The acceptance rule for a YIELD record (R67): it is valid only from the point's standby, and asserts the home. -/
def yieldAcceptance (d : PointDesc) (entry : MirrorEntry) (sender : Station) (e : Epoch) : Verdict :=
  if entry.inUse = false ∨ d.standbyStation ≠ some sender then .foreign
  else match d.homeStation with
    | none => .foreign
    | some h =>
      if entry.owner = some h then .accepted h (maxEpoch entry.epoch e) (decide (e.toNat < entry.epoch.toNat))
      else if entry.owner = some sender ∧ entry.epoch.toNat ≤ e.toNat then .accepted h e false
      else .rejected true

/-! ### Notices (R72) -/

/-- A notice placed with the owner and epoch of this station's mirror (R72). -/
def placeNotice (p : Point) (s : State) : State :=
  let e := s.mirror.get p
  match e.owner with
  | some o => s.withNotices (placeIn s.custody.notices { point := p, owner := o, epoch := e.epoch })
  | none => s

/-! ### Triggers (R75 to R80) -/

/-- The roster state of a station that is not present: ABSENT, SILENT or MISMATCHED (R76). -/
def RosterState.away : RosterState → Bool
  | .absent => true
  | .silent => true
  | .mismatched => true
  | .present => false
  | .self => false

/-- The other station of a custody entry: the standby of a HOME point, the home of a STANDBY point (R75). -/
def otherStation (d : PointDesc) : CustodyRole → Option Station
  | .home => d.standbyStation
  | .standby => d.homeStation

/-- The mirror owner of the entry's point is the other station. -/
def State.otherOwns (s : State) (c : CustodyEntry) : Bool :=
  match otherStation (s.desc c.point) c.role with
  | some o => (s.mirror.get c.point).owner == some o
  | none => false

/-- The roster state of the other station of an entry. -/
def State.otherState (s : State) (c : CustodyEntry) : RosterState :=
  match otherStation (s.desc c.point) c.role with
  | some o => (s.roster.entries.get o).state
  | none => .self

/-- The claim test of R81, without the epoch: for a STANDBY point, the home owns it, is away, and the context has taken
a sample (R76); for a HOME point, the standby owns it and is away, or the reclaim wait has lapsed (R77). -/
def State.claimHolds (s : State) (i : Input) (c : CustodyEntry) : Bool :=
  s.otherOwns c &&
  match c.role with
  | .standby => (s.otherState c).away && ((s.contexts.get i).quality != .none)
  | .home => (s.otherState c).away || c.lapsed

/-- The reclaim test of R82, without the epoch: the standby owns the point and is PRESENT (R78). -/
def State.reclaimHolds (s : State) (c : CustodyEntry) : Bool :=
  c.role == .home && s.otherOwns c && (s.otherState c == .present)

/-- The yield test of R83, without the epoch: this station owns the point. -/
def State.ownsPoint (s : State) (p : Point) : Bool := (s.mirror.get p).owner == some s.own

/-- The epoch at which custody can move a point no further (R80). -/
def lastEpoch : Epoch := 0xFFFF

/-- EPOCH_LIMIT raised once for the entry's point (R80). -/
def reportLimit (i : Input) (s : State) : State :=
  match s.custody.table.get i with
  | some c => if c.limitReported then s else raise (.epochLimit c.point) (s.setCustody i { c with limitReported := true })
  | none => s

/-- The claim triggers of an entry: the standby claim and the home forced claim (R76, R77, R80). -/
def claimTrigger (i : Input) (s : State) : State :=
  match s.custody.table.get i with
  | some c =>
    if s.claimHolds i c && (c.claimRetry == .stopped) && !c.claimDue then
      if (s.mirror.get c.point).epoch = lastEpoch then reportLimit i s
      else offer .claim (s.setCustody i { c with claimDue := true })
    else s
  | none => s

/-- The reclaim trigger of an entry (R78, R80). -/
def reclaimTrigger (i : Input) (s : State) : State :=
  match s.custody.table.get i with
  | some c =>
    if s.reclaimHolds c && (c.holdoff == .stopped) && (c.reclaimWait == .stopped) && !c.reclaimDue then
      if (s.mirror.get c.point).epoch = lastEpoch then reportLimit i s
      else offer .reclaim (s.setCustody i { c with reclaimDue := true })
    else s
  | none => s

/-- The triggers of an entry re-examined; outside RUN no mark is set (R75). -/
def reexamine (i : Input) (s : State) : State :=
  if s.control.state = .run then reclaimTrigger i (claimTrigger i s) else s

/-- The entries that satisfy a test re-examined, in increasing input number. -/
def reexamineWhere (f : CustodyEntry → Bool) (s : State) : State :=
  (List.finRange 8).foldl
    (fun s i => match s.custody.table.get i with
      | some c => if f c then reexamine i s else s
      | none => s) s

/-- Every custody entry re-examined (R75). -/
def reexamineAll (s : State) : State := reexamineWhere (fun _ => true) s

/-- The entry of a point re-examined after a change of its owner or epoch (R69, step 5). -/
def reexaminePoint (p : Point) (s : State) : State := reexamineWhere (fun c => c.point == p) s

/-- The entries whose other station is `a` re-examined (R75). -/
def reexamineStation (a : Station) (s : State) : State :=
  reexamineWhere (fun c => otherStation (s.desc c.point) c.role == some a) s

/-- The custody entry of a point changed, where there is one. -/
def State.mapCustody (s : State) (p : Point) (f : CustodyEntry → CustodyEntry) : State :=
  s.withTable (s.custody.table.map (fun o => o.map (fun c => if c.point = p then f c else c)))

/-! ### Demotion and promotion (R70, R71) -/

/-- The holdoff a demotion of a HOME point starts (R86). -/
def demotionHoldoff (m : List Host.Cell) : Holdoff :=
  if reclaimHoldoff m = 0 then .held else .running (reclaimHoldoff m * 100)

/-- The effects of a demotion on the point's custody entry (R70). -/
def demotedCustody (m : List Host.Cell) (c : CustodyEntry) : CustodyEntry :=
  { c with yieldDue := false, holdoff := if c.role = .home then demotionHoldoff m else c.holdoff }

/-- A demotion: the context is SHADOW already, with the owner change (R70, R99). -/
def demote (p : Point) (o : Station) (e : Epoch) (how : ReleaseDetail) (s : State) : State :=
  let s1 := raise (.pointReleased p e o how) s
  (unpublish p s1).mapCustody p (demotedCustody s.control.image)

/-- The effects of a promotion on the point's custody entry (R71). -/
def promotedCustody (c : CustodyEntry) : CustodyEntry :=
  if c.role = .home then
    { c with claimDue := false, reclaimDue := false, reclaimWait := .stopped, holdoff := .stopped, lapsed := false }
  else { c with claimDue := false, reclaimDue := false }

/-- The promotion write of the bound context (R8). -/
def promotionWrite (p : Point) (s : State) : State :=
  match s.boundContext p with
  | some c => writeFromContext p c s
  | none => s

/-- A promotion: the context is ACTING already, with the owner change, and has loaded a YIELD record's debounce state
(R71, R93). -/
def promote (p : Point) (e : Epoch) (path : AcquirePath) (s : State) : State :=
  let s1 := raise (.pointAcquired p e path) s
  (makeDue p (promotionWrite p s1)).mapCustody p promotedCustody

/-! ### Applying a decision (R69) -/

/-- The owner and epoch of an entry set, and the role of the bound context in the same step (R30, R69 step 1). -/
def setOwner (p : Point) (o : Station) (e : Epoch) (s : State) : State :=
  (s.setEntry p { s.mirror.get p with owner := some o, epoch := e }).mapBound p
    (fun c => { c with role := if o = s.own then .acting else .shadow })

/-- What an assertion carries beside its station and epoch: the content and debounce state of a record. -/
structure Carried where
  content : Option Content
  handover : Option Handover
  /-- The assertion comes from a YIELD record. -/
  isYield : Bool
deriving DecidableEq, Repr

/-- The debounce state of a YIELD record loaded ahead of a promotion (R43, R71). -/
def loadHandover (p : Point) (w : Carried) (s : State) : State :=
  match w.isYield, w.content, w.handover with
  | true, some c, some h => s.mapBound p (loadContext (s.desc p) c.hit h)
  | true, some _, none => s
  | true, none, _ => s
  | false, _, _ => s

/-- Step 2 of R69: a demotion when the owner changed from this station, a promotion when it changed to this
station. -/
def changeCustody (p : Point) (old : MirrorEntry) (o : Station) (e : Epoch) (w : Carried) (s : State) : State :=
  if old.owner = some o then s
  else if old.owner = some s.own then demote p o e (if w.isYield then .yielded else .demoted) s
  else if o = s.own then promote p e (if w.isYield then .yield else .claim) (loadHandover p w s)
  else s

/-- Step 4 of R69: the record write, except in the self-owner case (R10, R11). -/
def writeContent (p : Point) (w : Carried) (s : State) : State :=
  match w.content with
  | some c => if s.actsFor p then s else recordWrite p c s
  | none => s

/-- A decision applied, in the five steps of R69. -/
def applyVerdict (p : Point) (v : Verdict) (w : Carried) (s : State) : State :=
  match v with
  | .foreign => s
  | .rejected n => if n then placeNotice p s else s
  | .accepted o e n =>
    let old := s.mirror.get p
    let s1 := changeCustody p old o e w (setOwner p o e s)
    let s2 := if n then placeNotice p s1 else s1
    let s3 := writeContent p w s2
    if old.owner = some o ∧ old.epoch = e then s3 else reexaminePoint p s3

/-! ### Taking records, pairs and notices (R12, R65, R131) -/

/-- An assertion without content: an acted pair or a notice (R65). A point above 63 or a station above 15 makes it
foreign (R131). -/
def takeStatement (point : Byte) (a : Option Station) (e : Epoch) (fromNotice : Bool) (s : State) : State :=
  match pointOfByte point, a with
  | some p, some a =>
    applyVerdict p (acceptance (s.desc p) (s.mirror.get p) a e fromNotice)
      { content := none, handover := none, isYield := false } s
  | some _, none => s
  | none, _ => s

/-- A POINT record from `a` (R12, R65, R131). -/
def takePointRecord (a : Station) (s : State) (r : Record) : State :=
  match pointOfByte r.point with
  | some p =>
    match recordContent (s.desc p).publish r with
    | some c =>
      applyVerdict p (acceptance (s.desc p) (s.mirror.get p) a r.epoch false)
        { content := some c, handover := none, isYield := false } s
    | none => s
  | none => s

/-- A CLAIM record from `a`; its debounce state is loaded nowhere (R65, R131). -/
def takeClaimRecord (a : Station) (s : State) (r : CustodyRecord) : State :=
  match pointOfByte r.record.point with
  | some p =>
    match recordContent (s.desc p).publish r.record, handoverOf r.debounce with
    | some c, some h =>
      applyVerdict p (acceptance (s.desc p) (s.mirror.get p) a r.record.epoch false)
        { content := some c, handover := some h, isYield := false } s
    | some _, none => s
    | none, _ => s
  | none => s

/-- A YIELD record from `a` (R67, R131). -/
def takeYieldRecord (a : Station) (s : State) (r : CustodyRecord) : State :=
  match pointOfByte r.record.point with
  | some p =>
    match recordContent (s.desc p).publish r.record, handoverOf r.debounce with
    | some c, some h =>
      applyVerdict p (yieldAcceptance (s.desc p) (s.mirror.get p) a r.record.epoch)
        { content := some c, handover := some h, isYield := true } s
    | some _, none => s
    | none, _ => s
  | none => s

/-- The STANDBY entry of an input marked yield due, and the YIELD request offered; a HOME entry has no yield due mark
(R74, R75, R79, R80). -/
def markYield (i : Input) (s : State) : State :=
  match s.custody.table.get i with
  | some c =>
    if c.role = .home then s
    else if (s.mirror.get c.point).epoch = lastEpoch then reportLimit i s
    else if c.yieldDue then s
    else offer .yield (s.setCustody i { c with yieldDue := true })
  | none => s

/-- The first input whose custody entry has a point. -/
def State.custodyInput (s : State) (p : Point) : Option Input :=
  (List.finRange 8).find? (fun i => match s.custody.table.get i with
    | some c => c.point == p
    | none => false)

/-- A point listed in a RECLAIM frame from `a` (R79): it becomes yield due when `a` is its home and this station,
its standby, is its recorded owner. -/
def takeReclaimPoint (a : Station) (s : State) (point : Byte) : State :=
  match pointOfByte point with
  | some p =>
    if (s.desc p).homeStation = some a ∧ (s.mirror.get p).inUse ∧ s.ownsPoint p then
      match s.custodyInput p with
      | some i => markYield i s
      | none => s
    else s
  | none => s

/-! ### Assembly (R81, R82, R83) -/

/-- What a context supplies as custody content (R42): with quality NONE nothing but hit CLEAR (NONE for a VALUE_ONLY point),
with quality FAULTED the hit it kept, with quality GOOD its state as it stands. -/
def Context.supply (c : Context) (d : PointDesc) : Context :=
  match c.quality with
  | .none =>
    { c with
      lastValue := none, hit := if d.publish = .valueOnly then .none else .clear, candidate := none,
      assertProgress := 0, clearProgress := 0 }
  | .faulted => { c with lastValue := none, candidate := none, assertProgress := 0, clearProgress := 0 }
  | .good => c
  | .stale => c

/-- The record of custody content that a supplying context gives (R41). -/
def suppliedRecord (d : PointDesc) (p : Point) (e : Epoch) (c : Context) : CustodyRecord :=
  { record := { point := BitVec.ofNat 8 p.val, epoch := e, quality := c.quality,
                hit := if d.publish = .valueOnly then hitCode .none else hitCode c.hit, value := contextValue d c }
    debounce := { candidate := candidateCode c.candidate, assertProgress := BitVec.ofNat 4 c.assertProgress,
                  clearProgress := BitVec.ofNat 4 c.clearProgress } }

/-- The custody content of a point, from its bound context by the state of its quality (R41, R42). -/
def custodyRecord (d : PointDesc) (p : Point) (e : Epoch) (c : Context) : CustodyRecord :=
  suppliedRecord d p e (c.supply d)

/-- The record of a claim or a yield: the mirror's epoch plus 1, and the custody content of the input's context
(R81, R83). -/
def State.handoverRecord (s : State) (i : Input) (p : Point) : CustodyRecord :=
  custodyRecord (s.desc p) p ((s.mirror.get p).epoch + 1) (s.contexts.get i)

/-- One point of a CLAIM assembly: carried with its claim-retry timer started, or left out with its mark cleared
(R80, R81). -/
def claimPoint (acc : State × List CustodyRecord) (p : Point) : State × List CustodyRecord :=
  let s := acc.1
  match s.custodyInput p with
  | some i =>
    match s.custody.table.get i with
    | some c =>
      if c.claimDue then
        if s.claimHolds i c then
          if (s.mirror.get p).epoch = lastEpoch then (reportLimit i (s.setCustody i { c with claimDue := false }), acc.2)
          else (s.setCustody i { c with claimRetry := Timer.start (presenceInterval s.control.image) },
                acc.2 ++ [s.handoverRecord i p])
        else (s.setCustody i { c with claimDue := false }, acc.2)
      else acc
    | none => acc
  | none => acc

/-- One point of a RECLAIM assembly (R80, R82). -/
def reclaimPoint (acc : State × List Byte) (p : Point) : State × List Byte :=
  let s := acc.1
  match s.custodyInput p with
  | some i =>
    match s.custody.table.get i with
    | some c =>
      if c.reclaimDue then
        if s.reclaimHolds c then
          if (s.mirror.get p).epoch = lastEpoch then (reportLimit i (s.setCustody i { c with reclaimDue := false }), acc.2)
          else (s, acc.2 ++ [BitVec.ofNat 8 p.val])
        else (s.setCustody i { c with reclaimDue := false }, acc.2)
      else acc
    | none => acc
  | none => acc

/-- One point of a YIELD assembly (R80, R83). -/
def yieldPoint (acc : State × List CustodyRecord) (p : Point) : State × List CustodyRecord :=
  let s := acc.1
  match s.custodyInput p with
  | some i =>
    match s.custody.table.get i with
    | some c =>
      if c.yieldDue then
        if s.ownsPoint p then
          if (s.mirror.get p).epoch = lastEpoch then (reportLimit i (s.setCustody i { c with yieldDue := false }), acc.2)
          else (s, acc.2 ++ [s.handoverRecord i p])
        else (s.setCustody i { c with yieldDue := false }, acc.2)
      else acc
    | none => acc
  | none => acc

/-- The CLAIM payload, in increasing point number; `none` when no point is carried (R81). -/
def assembleClaim (s : State) : State × Option Payload :=
  let r := (List.finRange 64).foldl claimPoint (s, [])
  (r.1, if r.2.isEmpty then none else some (.claim r.2))

/-- The RECLAIM payload, in increasing point number; `none` when no point is carried (R82). -/
def assembleReclaim (s : State) : State × Option Payload :=
  let r := (List.finRange 64).foldl reclaimPoint (s, [])
  (r.1, if r.2.isEmpty then none else some (.reclaim r.2))

/-- The YIELD payload, in increasing point number; `none` when no point is carried (R83). -/
def assembleYield (s : State) : State × Option Payload :=
  let r := (List.finRange 64).foldl yieldPoint (s, [])
  (r.1, if r.2.isEmpty then none else some (.yield r.2))

/-! ### The end of a custody frame (R81, R82, R83) -/

/-- A point whose CLAIM completed: its claim due mark is cleared (R81). -/
def claimCompleted (s : State) (p : Point) : State := s.mapCustody p (fun c => { c with claimDue := false })

/-- A point whose RECLAIM completed: its mark is cleared, and the reclaim wait starts if the standby still owns it
(R82, R85). -/
def reclaimCompleted (s : State) (p : Point) : State :=
  s.mapCustody p (fun c =>
    { c with reclaimDue := false,
             reclaimWait := if c.role == .home && s.otherOwns c then Timer.start (reclaimWaitTime s.control.image)
                            else c.reclaimWait })

/-- A point whose YIELD completed: its mark is cleared (R83). -/
def yieldCompleted (s : State) (p : Point) : State := s.mapCustody p (fun c => { c with yieldDue := false })

/-- The points of a CLAIM or YIELD frame's records, in frame order. -/
def custodyPoints (rs : List CustodyRecord) : List Point := rs.filterMap (fun r => pointOfByte r.record.point)

/-- The Custody Controller offers again each kind that some entry marks and the queue does not hold, in the order
CLAIM, RECLAIM, YIELD, until a refusal (R75, R134). -/
def reofferCustody (s : State) : State :=
  let marked (f : CustodyEntry → Bool) : Bool := s.custody.table.cells.any (fun o => o.any f)
  let wanted := (if marked CustodyEntry.claimDue then [Request.claim] else []) ++
    ((if marked CustodyEntry.reclaimDue then [Request.reclaim] else []) ++
     (if marked CustodyEntry.yieldDue then [Request.yield] else []))
  (wanted.foldl
    (fun (acc : State × Bool) r =>
      if acc.2 then acc else match offerTo acc.1.link.urgent r with
        | some q => (acc.1.withUrgent q, false)
        | none => (acc.1, true))
    (s, false)).1

/-! ### Custody timers and the host RECLAIM (R84 to R87) -/

/-- A claim-retry timer expires (R84). -/
def claimRetryExpired (i : Input) (s : State) : State :=
  match s.custody.table.get i with
  | some c =>
    if s.active && c.claimRetry.due then reexamine i (s.setCustody i { c with claimRetry := .stopped }) else s
  | none => s

/-- A reclaim-wait timer expires (R85). -/
def reclaimWaitExpired (i : Input) (s : State) : State :=
  match s.custody.table.get i with
  | some c =>
    if s.active && c.reclaimWait.due then
      if s.otherOwns c then
        reexamine i (raise (.reclaimForced c.point) (s.setCustody i { c with reclaimWait := .stopped, lapsed := true }))
      else reexamine i (s.setCustody i { c with reclaimWait := .stopped })
    else s
  | none => s

/-- A running holdoff timer expires (R86). -/
def holdoffExpired (i : Input) (s : State) : State :=
  match s.custody.table.get i with
  | some c =>
    if s.active && c.holdoff.due then reexamine i (s.setCustody i { c with holdoff := .stopped }) else s
  | none => s

/-- The holdoff timer of every HOME entry stopped, whether running or held (R86, R87). -/
def stopHoldoffs (s : State) : State :=
  s.withTable (s.custody.table.map (fun o => o.map (fun c =>
    if c.role = .home then { c with holdoff := .stopped } else c)))

/-! ### The notice list at a PRESENCE frame (R73) -/

/-- A notice is carried unless the mirror has a higher epoch, or the same epoch with another owner (R73). -/
def noticeStands (mirror : Table 64 MirrorEntry) (n : Notice) : Bool :=
  let e := mirror.get n.point
  !(decide (n.epoch.toNat < e.epoch.toNat) || (n.epoch == e.epoch && e.owner != some n.owner))

/-- The notice list gone through at the assembly of a PRESENCE frame: the entries that no longer stand are removed
(R73). -/
def pruneNotices (s : State) : State :=
  s.withNotices (s.custody.notices.filter (noticeStands s.mirror))

/-- A notice as a PRESENCE frame carries it (R175). -/
def Notice.wire (n : Notice) : WireNotice :=
  { point := BitVec.ofNat 8 n.point.val, owner := BitVec.ofNat 8 n.owner.val, epoch := n.epoch }

/-- The notices a completed PRESENCE frame carried leave the list (R73). -/
def dropCarried (ns : List WireNotice) (s : State) : State :=
  s.withNotices (s.custody.notices.filter (fun n => !ns.contains n.wire))

end Sys2Proof.Machine
end

