-- ==== Sys2Proof/Machine/Roster.lean ====
section
/-! DEFINITION. The Roster (chapter 7): admission, digest comparison, silence, the presence timer, and the assembly
and ending of PRESENCE frames. -/

namespace Sys2Proof.Machine

/-- Whether a frame from station `a` is admitted (R115). `own` marks the station's own frame, heard back. -/
def admitted (s : State) (own : Bool) (f : Frame) : Bool :=
  own || match f.payload with
  | .presence _ _ _ => true
  | .point _ => (s.roster.entries.get f.sender).state == .present
  | .claim _ => (s.roster.entries.get f.sender).state == .present
  | .yield _ => (s.roster.entries.get f.sender).state == .present
  | .reclaim _ => (s.roster.entries.get f.sender).state == .present
  | .trip _ _ => (s.roster.entries.get f.sender).state == .present

/-- The sender's silence timer restarted at an admitted frame of another kind than PRESENCE (R115, R118). -/
def restartSilence (a : Station) (s : State) : State :=
  s.setRoster a { s.roster.entries.get a with silence := Timer.start (silenceLimit s.control.image) }

/-- A roster entry that takes a new state, with STATION_STATE raised and the custody triggers re-examined when the
state changed (R116, R117 step 2, R118). -/
def setStanding (a : Station) (r : RosterEntry) (s : State) : State :=
  if (s.roster.entries.get a).state = r.state then s.setRoster a r
  else reexamineStation a (raise (.stationState a r.state) (s.setRoster a r))

/-- The digest comparison of a PRESENCE frame from another station (R116). -/
def compareDigest (a : Station) (digest : Word) (s : State) : State :=
  if digest = s.control.digest then
    setStanding a { state := .present, lastDigest := some digest, silence := Timer.start (silenceLimit s.control.image) } s
  else setStanding a { state := .mismatched, lastDigest := some digest, silence := .stopped } s

/-- The acted pairs and then the notices of a PRESENCE frame, as assertions without content (R65, R117 step 3). -/
def takeStatements (a : Station) (ps : List ActedPair) (ns : List WireNotice) (s : State) : State :=
  ns.foldl (fun s n => takeStatement n.point (stationOfByte n.owner) n.epoch true s)
    (ps.foldl (fun s x => takeStatement x.point (some a) x.epoch false s) s)

/-- An admitted PRESENCE frame (R117). -/
def takePresence (a : Station) (own : Bool) (digest : Word) (ps : List ActedPair) (ns : List WireNotice)
    (s : State) : State :=
  if own then takeStatements a ps ns s
  else
    let s1 := compareDigest a digest s
    if digest = s.control.digest then takeStatements a ps ns s1 else s1

/-- The silence timer of a station's entry expires (R118). -/
def silenceExpired (a : Station) (s : State) : State :=
  let r := s.roster.entries.get a
  if s.active && r.silence.due && (r.state == .present) then
    setStanding a { r with state := .silent, silence := .stopped } s
  else s

/-- The presence timer expires in RUN: presence pending is set and the timer starts again (R120). -/
def presenceExpired (s : State) : State :=
  if !s.control.rstAsserted && (s.control.state == .run) && s.roster.presenceTimer.due then
    { s with roster := { s.roster with presencePending := true,
                                       presenceTimer := Timer.start (presenceInterval s.control.image) } }
  else s

/-- The acted pairs: one for each point this station owns, in increasing point number (R122). -/
def actedPairs (s : State) : List ActedPair :=
  ((List.finRange 64).filter s.ownsPoint).map
    (fun p => { point := BitVec.ofNat 8 p.val, epoch := (s.mirror.get p).epoch })

/-- The PRESENCE payload (R122); it is always given. -/
def assemblePresence (s : State) : State × Option Payload :=
  let s1 := pruneNotices s
  (s1, some (.presence s.control.digest (actedPairs s1) (s1.custody.notices.map Notice.wire)))

/-- A PRESENCE frame of this station completes (R123). -/
def completePresence (ns : List WireNotice) (s : State) : State :=
  dropCarried ns { s with roster := { s.roster with presencePending := false, firstPresence := true } }

end Sys2Proof.Machine
end

