-- ==== Sys2Proof/Machine/Receive.lean ====
section
/-! DEFINITION. The receive path of the Link Controller (8.2): carrier episodes, the checks of R129 and R130, the
class anchors of R137, roster admission and dispatch by kind. -/

namespace Sys2Proof.Machine

/-- The rejected-frame count raised by 1, saturating (R128, R129). -/
def rejectFrame (s : State) : State :=
  { s with link := { s.link with rejected := min (s.link.rejected + 1) Config.rejectedLimit } }

/-- Both class anchors at 15 (R137). -/
def resetAnchors (s : State) : State :=
  { s with link := { s.link with normalAnchor := 15, backgroundAnchor := 15 } }

/-- The anchor of the frame's class takes its sender (R137). -/
def setAnchor (f : Frame) (s : State) : State :=
  match f.payload with
  | .point _ => { s with link := { s.link with normalAnchor := f.sender } }
  | .presence _ _ _ => { s with link := { s.link with backgroundAnchor := f.sender } }
  | .claim _ => s
  | .yield _ => s
  | .reclaim _ => s
  | .trip _ _ => s

/-- An admitted frame taken by the block its kind names (R131). -/
def dispatchFrame (f : Frame) (own : Bool) (s : State) : State :=
  match f.payload with
  | .presence d ps ns => takePresence f.sender own d ps ns s
  | .point rs => rs.foldl (takePointRecord f.sender) s
  | .claim rs => rs.foldl (takeClaimRecord f.sender) s
  | .yield rs => rs.foldl (takeYieldRecord f.sender) s
  | .reclaim ps => ps.foldl (takeReclaimPoint f.sender) s
  | .trip g k => takeTrip f.sender own g k s

/-- The silence timer restarted by an admitted frame of another station and another kind than PRESENCE (R115). -/
def noteHeard (f : Frame) (own : Bool) (s : State) : State :=
  if own then s else match f.payload with
    | .presence _ _ _ => s
    | .point _ => restartSilence f.sender s
    | .claim _ => restartSilence f.sender s
    | .yield _ => restartSilence f.sender s
    | .reclaim _ => restartSilence f.sender s
    | .trip _ _ => restartSilence f.sender s

/-- A frame that passes checks 1 to 3 of R129: the anchor, the own-number check, admission, dispatch (R130, R131,
R137). `own` marks the station's own loopback. -/
def takeFrame (f : Frame) (own : Bool) (s : State) : State :=
  let s1 := setAnchor f s
  if !own && (f.sender == s.own) then raise .duplicateStation s1
  else if admitted s1 own f then dispatchFrame f own (noteHeard f own s1)
  else s1

/-- The receiver hears the line: RSTn is released and the station is in LISTEN, RUN or ISOLATED (R125). -/
def State.receiving (s : State) : Bool := s.active

/-- The station's own last episode is over: a loopback still owed is owed no longer (R132), and the episode in which it
collided has ended (R128, R141). -/
def endOwnEpisode (s : State) : State := { s with link := { s.link with loopback := none, jammed := false } }

/-- The episode that was present as the receiver was switched on has ended (R127). -/
def endIgnoring (s : State) : State := { s with link := { s.link with ignoring := false } }

/-- The station sends nothing, and no completion of its own frame is to come: another frame can be received or begun. No
frame comes between the loopback and the completion of the station's own (R132). -/
def Link.free (l : Link) : Bool := (l.transmission == .idle) && l.completion.isNone

/-- The received frame bytes are the frame the station is sending: it has ended with every bit agreeing, and the loopback
comes ahead of the completion (R132). -/
def sendingLoopback (s : State) (bs : List Byte) : Bool :=
  match s.link.transmission with
  | .frame f => f.bytes == bs
  | .idle => false
  | .jam => false
  | .resetJam => false

/-- The frame being sent has been heard back ahead of its completion: it has ended on the link, LTXEN is released, and its
completion is to come (R125, R132, R140). -/
def endHeardFrame (s : State) : State :=
  match s.link.transmission with
  | .frame f => { s with link := { s.link with transmission := .idle, ltxen := false, completion := some f } }
  | .idle => s
  | .jam => s
  | .resetJam => s

/-- The received frame bytes are those of the completed frame whose loopback is owed (R132). -/
def owedLoopback (s : State) (bs : List Byte) : Bool :=
  match s.link.loopback with
  | some f => f.bytes == bs
  | none => false

/-- A received frame at a station that is not transmitting in its episode (R128 to R131). -/
def takeBytes (bs : List Byte) (own : Bool) (s : State) : State :=
  match parseFrame bs with
  | some f => takeFrame f own s
  | none => rejectFrame s

/-- An episode with a start delimiter, bytes and an end delimiter (R128): the station's own loopback, or a frame from
another station; at a transmitting station the outcome is decided by collision detection alone. -/
def receiveFrame (bs : List Byte) (s : State) : State :=
  if !s.receiving then s
  else if s.link.ignoring then endIgnoring s
  else if s.link.free then takeBytes bs (owedLoopback s bs) (endOwnEpisode s)
  else if sendingLoopback s bs then takeBytes bs true (endHeardFrame s)
  else s

/-- A jam or a truncated frame (R128): at a station that was receiving it is counted and has its effect; at a station that
transmitted in the episode, the jam of its own collision over (R141), it ends the episode and does nothing else. -/
def receiveOther (effect : State → State) (s : State) : State :=
  if !s.receiving then s
  else if s.link.ignoring then endIgnoring s
  else if !s.link.free then s
  else if s.link.jammed then endOwnEpisode s
  else effect (rejectFrame (endOwnEpisode s))

end Sys2Proof.Machine
end

