-- ==== Sys2Proof/Machine/FrameCommands.lean ====
section
/-! DEFINITION. The meanings of the commands an episode on the link brings (R128). A frame command carries the bytes the
receiver gathered, and the receive path decides from the bytes, by R129 to R131, what becomes of them. -/

namespace Sys2Proof.Machine

/-- POINT_FRAME (R12, R129 to R131). -/
def execPointFrame (bytes : List Byte) (s : State) : Host.Outcome State Fault Refusal := .next (receiveFrame bytes s)

/-- CLAIM_FRAME (R66, R129 to R131). -/
def execClaimFrame (bytes : List Byte) (s : State) : Host.Outcome State Fault Refusal := .next (receiveFrame bytes s)

/-- YIELD_FRAME (R67, R129 to R131). -/
def execYieldFrame (bytes : List Byte) (s : State) : Host.Outcome State Fault Refusal := .next (receiveFrame bytes s)

/-- RECLAIM_FRAME (R79, R129 to R131). -/
def execReclaimFrame (bytes : List Byte) (s : State) : Host.Outcome State Fault Refusal := .next (receiveFrame bytes s)

/-- TRIPPED_FRAME (R102 to R104, R129 to R131). -/
def execTrippedFrame (bytes : List Byte) (s : State) : Host.Outcome State Fault Refusal := .next (receiveFrame bytes s)

/-- RELEASE_FRAME (R102, R108 to R110, R129 to R131). -/
def execReleaseFrame (bytes : List Byte) (s : State) : Host.Outcome State Fault Refusal := .next (receiveFrame bytes s)

/-- PRESENCE_FRAME (R116, R117, R129 to R131). -/
def execPresenceFrame (bytes : List Byte) (s : State) : Host.Outcome State Fault Refusal := .next (receiveFrame bytes s)

/-- BAD_FRAME (R129). -/
def execBadFrame (bytes : List Byte) (s : State) : Host.Outcome State Fault Refusal := .next (receiveFrame bytes s)

/-- JAM (R128, R137). -/
def execJam (s : State) : Host.Outcome State Fault Refusal := .next (receiveOther resetAnchors s)

/-- TRUNCATED_FRAME (R128). -/
def execTruncatedFrame (s : State) : Host.Outcome State Fault Refusal := .next (receiveOther id s)

end Sys2Proof.Machine
end

