-- ==== Sys2Proof/Machine/Flags.lean ====
section
/-! DEFINITION. The status codes, flag bytes and item codes of the management responses (R168, R178), and the
bytes of an event record (R161, R178). -/

namespace Sys2Proof.Machine

/-! ### Statuses (R168, R178) -/

/-- OK, with its data. -/
def statusOk (data : List Byte) : List Byte := 0x00 :: data
/-- BUSY. -/
def statusBusy : List Byte := [0x01]
/-- BAD_STATE. -/
def statusBadState : List Byte := [0x02]
/-- BAD_ARGUMENT. -/
def statusBadArgument : List Byte := [0x03]
/-- EMPTY. -/
def statusEmpty : List Byte := [0x05]

/-- The reasons of a REFUSED answer (R168). -/
inductive HostRefusal where
  | noImage | notTripped | satisfied | noBasis
deriving DecidableEq, Repr

/-- REFUSED, with its reason byte (R178). -/
def statusRefused (r : HostRefusal) : List Byte :=
  [0x04, match r with | .noImage => 1 | .notTripped => 2 | .satisfied => 3 | .noBasis => 4]

/-! ### Item codes (R178) -/

/-- A flag as a bit of a byte of flags (R178). -/
def flag (b : Bool) (bit : Nat) : Byte := if b then 1#8 <<< bit else 0

/-- A yes-or-no item that fills a byte: 0x01 for yes or set, 0x00 for no or clear. R178 gives such an item one byte and
states no value for it (R169): DESIGN CHOICE, log entry 21. -/
def flagItem (b : Bool) : Byte := flag b 0

/-- A station reference; 0xFF for none (R172). -/
def stationByte : Option Station → Byte
  | some a => BitVec.ofNat 8 a.val
  | none => 0xFF

/-- The code of a station state (R178). -/
def stationStateCode : StationState → Byte
  | .config => 0 | .validating => 1 | .listen => 2 | .run => 3 | .isolated => 4

/-- The code of a START error (R178). -/
def startErrorCode : StartError → Byte
  | .none => 0 | .aborted => 1 | .noImage => 2 | .badFormat => 3 | .badStation => 4 | .badLink => 5
  | .badPoint _ => 6 | .badGroup _ => 7 | .badInput _ => 8 | .badInputPoint _ => 8

/-- The subject of a START error: the number, 0xFF for none; a BAD_INPUT that names a point has bit 7 set
(R178). -/
def startErrorSubject : StartError → Byte
  | .badPoint p => BitVec.ofNat 8 p.val
  | .badGroup g => BitVec.ofNat 8 g.val
  | .badInput i => BitVec.ofNat 8 i.val
  | .badInputPoint p => 0x80 ||| BitVec.ofNat 8 p.val
  | .none | .aborted | .noImage | .badFormat | .badStation | .badLink => 0xFF

/-- A quality, coded as in a record status (R175, R178). -/
def qualityByte : Quality → Byte
  | .none => 0 | .good => 1 | .faulted => 2 | .stale => 3

/-- A hit, coded as in a record status (R175, R178). -/
def hitByte : Hit → Byte
  | .none => 0 | .clear => 1 | .side .high => 2 | .side .low => 3 | .side .inside => 4

/-- A hit latch: bit 0 HIGH, bit 1 LOW, bit 2 IN (R178). -/
def latchByte (l : Latch) : Byte := flag l.high 0 ||| flag l.low 1 ||| flag l.inside 2

/-- The role bound to a point: 0 not bound, 1 SHADOW, 2 ACTING (R178). -/
def roleByte : Role → Byte
  | .idle => 0 | .shadow => 1 | .acting => 2

/-- The code of a group state (R178). -/
def groupStateCode : GroupState → Byte
  | .clear => 0 | .arming => 1 | .tripped => 2 | .fault => 3

/-- The code of a cause (R178). -/
def causeCode : Option Cause → Byte
  | none => 0 | some .localTrip => 1 | some (.remote _) => 2

/-- The announcer of a cause (R46). -/
def Cause.announcer : Option Cause → Option Station
  | some (.remote a) => some a
  | some .localTrip => none
  | none => none

/-- The code of a roster state (R178). -/
def rosterStateCode : RosterState → Byte
  | .absent => 0 | .present => 1 | .silent => 2 | .mismatched => 3 | .self => 4

/-- The code of a release refusal's reason in an event (R178). -/
def refusedReasonCode : RefusedReason → Byte
  | .satisfied => 3 | .noBasis => 4

/-- The code of a rejection's reason (R178). -/
def rejectReasonCode : RejectReason → Byte
  | .illegalInput => 1 | .unmapped => 2 | .short => 3

/-! ### Event records (R161, R178) -/

/-- The subject byte of an event: 0xFF when absent (R178). -/
def Event.subject : Event → Byte
  | .groupTripped g _ => BitVec.ofNat 8 g.val
  | .groupReleased g _ => BitVec.ofNat 8 g.val
  | .groupReleaseRefused g _ _ => BitVec.ofNat 8 g.val
  | .groupFault g => BitVec.ofNat 8 g.val
  | .groupFaultEnded g => BitVec.ofNat 8 g.val
  | .pointStale p => BitVec.ofNat 8 p.val
  | .pointAcquired p _ _ => BitVec.ofNat 8 p.val
  | .pointReleased p _ _ _ => BitVec.ofNat 8 p.val
  | .reclaimForced p => BitVec.ofNat 8 p.val
  | .epochLimit p => BitVec.ofNat 8 p.val
  | .stationState a _ => BitVec.ofNat 8 a.val
  | .sampleRejected (some i) _ => BitVec.ofNat 8 i.val
  | .sampleRejected none _ => 0xFF
  | .duplicateStation | .linkIsolated | .linkRestored | .runEntered => 0xFF

/-- The detail bytes of an event before the filling with 0 (R178). -/
def Event.details : Event → List Byte
  | .groupTripped _ c => [causeCode (some c), stationByte (Cause.announcer (some c))]
  | .groupReleased _ r => [stationByte (some r)]
  | .groupReleaseRefused _ r w => [stationByte (some r), refusedReasonCode w]
  | .pointAcquired _ e path => Half.bytes e ++ [match path with | .claim => 1 | .yield => 2]
  | .pointReleased _ e o d => Half.bytes e ++ [stationByte (some o), match d with | .demoted => 1 | .yielded => 2]
  | .stationState _ st => [rosterStateCode st]
  | .sampleRejected _ w => [rejectReasonCode w]
  | .groupFault _ | .groupFaultEnded _ | .pointStale _ | .reclaimForced _ | .epochLimit _
  | .duplicateStation | .linkIsolated | .linkRestored | .runEntered => []

/-- The four detail bytes: filled from the first byte on, unused bytes 0 (R178). -/
def Event.detail (e : Event) : List Byte := (e.details ++ [0, 0, 0, 0]).take 4

/-- The data of a POP-EVENT answered OK (R165, R178). -/
def eventData (r : EventRecord) (overflow : Bool) : List Byte :=
  BitVec.ofNat 8 r.event.code :: flagItem overflow :: (Word.bytes r.time ++ r.event.subject :: r.event.detail)

end Sys2Proof.Machine
end

