-- ==== Sys2Proof/Machine/Access.lean ====
section
/-! DEFINITION. Access, sending, collisions and isolation (8.3 to 8.5): idle events, deferral, the win, the end of the
station's own frame, and departures from the urgent queue. -/

namespace Sys2Proof.Machine

/-! ### Departures (R134) -/

/-- A departure from the urgent queue reported to the Group Voter and then to the Custody Controller (R134). -/
def departure (s : State) : State := reofferCustody (reofferTripped s)

/-- A request leaves the queue. -/
def dequeue (r : Request) (s : State) : State := s.withUrgent (s.link.urgent.erase r)

/-! ### Idle events and waits (R127, R135, R136, R138) -/

/-- The rotation of a class: (own number − anchor − 1) mod 16 (R136). -/
def rotation (own anchor : Station) : Nat := (own.val + 15 - anchor.val) % 16

/-- The offset of a class in slots (R136). -/
def offsetOf (s : State) : LinkClass → Nat
  | .urgent => s.own.val
  | .normal => 16 + rotation s.own s.link.normalAnchor
  | .background => 32 + rotation s.own s.link.backgroundAnchor

/-- The highest class offered (R121, R135): before the first PRESENCE of a RUN, BACKGROUND alone. -/
def offeredClass (s : State) : Option LinkClass :=
  if s.roster.firstPresence then
    if !s.link.urgent.isEmpty then some .urgent
    else if !s.publisher.list.isEmpty then some .normal
    else if s.roster.presencePending then some .background
    else none
  else if s.roster.presencePending then some .background
  else none

/-- The deferral replaced. -/
def State.withDeferral (s : State) (d : Option Deferral) : State := { s with link := { s.link with deferral := d } }

/-- An idle event (R127): a station in RUN with work offered takes its class and offset (R136). It comes only on a quiet
line with no end of the station's own frame to come, so a loopback still owed, an ignored episode and the episode of the
station's own jam are over. -/
def idleEvent (s : State) : State :=
  if s.receiving && s.link.free then
    let s1 := endIgnoring (endOwnEpisode s)
    s1.withDeferral
      (if s.control.state = .run then (offeredClass s).map (fun c => { linkClass := c, offset := offsetOf s c })
       else none)
  else s

/-- Carrier before the station's slot begins: the wait is cancelled (R138). -/
def carrierSeen (s : State) : State := s.withDeferral none

/-! ### The win (R138, R139) -/

/-- What the owner of the request at hand gives at the win: the state after the assembly, and the payload, or none when
it withdraws (R59, R81, R82, R83, R107, R139). -/
def assembleRequest (r : Request) (s : State) : State × Option Payload :=
  match r with
  | .claim => assembleClaim s
  | .reclaim => assembleReclaim s
  | .yield => assembleYield s
  | .tripped g =>
    (s, if (s.voter.groups.get g).state = .tripped then some (.trip (BitVec.ofNat 8 g.val) 1) else none)
  | .release g =>
    let d := s.groupDesc g
    let rec' := s.voter.groups.get g
    if rec'.state ≠ .tripped then (s, none)
    else if satisfied d rec' then (raise (.groupReleaseRefused g s.own .satisfied) s, none)
    else if noBasis d rec' then (raise (.groupReleaseRefused g s.own .noBasis) s, none)
    else (s, some (.trip (BitVec.ofNat 8 g.val) 2))

/-- A frame begun: LTXEN is asserted and the payload is fixed (R125, R139). -/
def beginFrame (p : Payload) (s : State) : State :=
  { s with link := { s.link with transmission := .frame { sender := s.own, payload := p }, ltxen := true,
                                 loopback := none } }

/-- The frame begun with a payload given, or the urgent request withdrawn, which is a departure (R134, R139). -/
def sendOrWithdraw (withdraw : State → State) (a : State × Option Payload) : State :=
  match a.2 with
  | some p => beginFrame p a.1
  | none => withdraw a.1

/-- The win of a class: its owner is asked for the payload (R139). -/
def winClass (c : LinkClass) (s : State) : State :=
  match c with
  | .urgent =>
    match s.link.urgent with
    | [] => s
    | r :: _ => sendOrWithdraw (fun s => departure (dequeue r s)) (assembleRequest r s)
  | .normal => sendOrWithdraw id (assemblePoint s)
  | .background => sendOrWithdraw id (assemblePresence s)

/-- The station's slot begins on an idle link (R138, R139). -/
def winSlot (s : State) : State :=
  if !s.control.rstAsserted && (s.control.state == .run) && s.link.free then
    match s.link.deferral with
    | some d => winClass d.linkClass (s.withDeferral none)
    | none => s
  else s

/-! ### The end of the station's own frame (R132, R140, R141) -/

/-- The request that a payload carries: none for POINT and PRESENCE. -/
def requestOf : Payload → Option Request
  | .claim _ => some .claim
  | .reclaim _ => some .reclaim
  | .yield _ => some .yield
  | .trip g k => (groupOfByte g).map (fun g => if k = 1 then .tripped g else .release g)
  | .point _ => none
  | .presence _ _ _ => none

/-- The owning block told of the completion, before any departure (R81, R82, R83, R97, R123). -/
def completeOwner (p : Payload) (s : State) : State :=
  match p with
  | .claim rs => (custodyPoints rs).foldl claimCompleted s
  | .reclaim ps => (ps.filterMap pointOfByte).foldl reclaimCompleted s
  | .yield rs => (custodyPoints rs).foldl yieldCompleted s
  | .point rs => completePoint rs s
  | .presence _ _ ns => completePresence ns s
  | .trip _ _ => s

/-- The urgent request of a completed frame leaves the queue, which is a departure (R133, R134). -/
def completeRequest (p : Payload) (s : State) : State :=
  match requestOf p with
  | some r => departure (dequeue r s)
  | none => s

/-- The completion of the station's own frame at its owner (R140): the consecutive-failure count is 0, the owning block is told,
and an urgent request leaves the queue. -/
def reportCompletion (f : Frame) (l : Link) (s : State) : State :=
  completeRequest f.payload (completeOwner f.payload { s with link := { l with failures := 0 } })

/-- The station's own frame ends with every bit agreeing (R132, R140): the frame being sent, which releases LTXEN and leaves its
loopback to come, or the frame heard back already. -/
def completeFrame (s : State) : State :=
  match s.link.transmission with
  | .frame f => reportCompletion f { s.link with transmission := .idle, ltxen := false, loopback := some f } s
  | .idle =>
    match s.link.completion with
    | some f => reportCompletion f { s.link with completion := none } s
    | none => s
  | .jam => s
  | .resetJam => s

/-- The owning block told of the collision (R98, R141): only the Publisher has something to undo. -/
def collideOwner (p : Payload) (s : State) : State :=
  match p with
  | .point rs => collidePoint rs s
  | .claim _ => s
  | .reclaim _ => s
  | .yield _ => s
  | .presence _ _ _ => s
  | .trip _ _ => s

/-- A transmitted bit disagrees with the received bit (R141, R142): the station sends the jam. -/
def collideFrame (s : State) : State :=
  match s.link.transmission with
  | .frame f =>
    collideOwner f.payload (resetAnchors
      { s with link := { s.link with transmission := .jam,
                                     failures := min (s.link.failures + 1) Config.isolationFailures } })
  | .idle => s
  | .jam => s
  | .resetJam => s

/-- The station enters ISOLATED (R120, R157). -/
def isolate (s : State) : State :=
  let s1 := raise .linkIsolated s
  { s1 with
    control := { s1.control with state := .isolated, isolation := Timer.start (isolationHold s1.control.image) }
    roster := { s1.roster with presenceTimer := .stopped }
    link := { s1.link with deferral := none } }

/-- The transmitter released after a jam (R141, R143). -/
def releaseLine (s : State) : State := { s with link := { s.link with transmission := .idle, ltxen := false } }

/-- The episode in which the station collided lasts until its end is seen: another station's jam may outlast its own
(R141). -/
def markJammed (s : State) : State := { s with link := { s.link with jammed := true } }

/-- The jam ends (R141, R142): a station in RUN with failure count 8 enters ISOLATED. The jam of a RESTART isolates nothing
(R143), and began with the receiver off, which ignores what it then finds on the line (R127). -/
def endJam (s : State) : State :=
  match s.link.transmission with
  | .jam =>
    let s1 := markJammed (releaseLine s)
    if s.control.state = .run ∧ s.link.failures = Config.isolationFailures then isolate s1 else s1
  | .resetJam => releaseLine s
  | .idle => s
  | .frame _ => s

end Sys2Proof.Machine
end

