-- ==== Sys2Proof/Machine/Sampling.lean ====
section
/-! DEFINITION. The Sample Interface and the taking of a sample at its context (R24 to R27, R39, R40). -/

namespace Sys2Proof.Machine

/-- A sample at the context of an input (R39, R40): the context is evaluated, an ACTING context makes the sample write,
and the first sample that takes the quality from NONE has the custody entry re-examined (R75). -/
def takeSample (i : Input) (p : Point) (w : SampleWord) (s : State) : State :=
  let c0 := s.contexts.get i
  let c := evaluateSample (s.desc p) w c0
  let s1 := s.setContext i c
  let s2 := if c.role = .acting then writeFromContext p c s1 else s1
  if c0.quality = .none then reexamine i s2 else s2

/-- A sample word checked and routed (R26). -/
def routeSample (w : SampleWord) (s : State) : State :=
  match localInput w.input with
  | none => raise (.sampleRejected (some w.input) .illegalInput) s
  | some i =>
    match (s.contexts.get i).point with
    | none => raise (.sampleRejected (some w.input) .unmapped) s
    | some p => takeSample i p w s

/-- An SFS frame ends in LISTEN, RUN or ISOLATED (R24, R25): no bit is ignored, 1 to 23 bits are cut short, and the first
24 bits form the word. -/
def judgeSample (bits : List Bool) (s : State) : State :=
  if bits.length = 0 then s
  else if bits.length < Config.sampleBits then raise (.sampleRejected (shortInput bits) .short) s
  else routeSample (sampleWord bits) s

/-- An SFS frame ends on the sample port (R24, R26, R27): a frame that a reset abandoned gives no arrival, and in CONFIG
and VALIDATING, or while RSTn is asserted, the word is discarded. -/
def sampleEnds (bits : List Bool) (s : State) : State :=
  if s.control.rstAsserted then s
  else if s.sample.abandoned then { s with sample := { abandoned := false } }
  else if s.control.state.runtime then judgeSample bits s
  else s

end Sys2Proof.Machine
end

