-- ==== Sys2Proof/Machine/Station.lean ====
section
/-! DEFINITION. The Station Controller (chapter 9): resets, validation, the digest, the runtime initialization, the
transitions between LISTEN, RUN and ISOLATED, and the local time base (10.1). -/

namespace Sys2Proof.Machine

/-! ### Resets (R146, R158) -/

/-- Every block at its power-up form, with the image lost; the command queue is the model's own and is kept. -/
def powerUpForm (rst sfsHigh mcsnLow : Bool) (s : State) : State :=
  { State.reset with
    control := { StationController.powerUpForm with rstAsserted := rst }
    sample := { abandoned := sfsHigh }
    port := { waiting := mcsnLow, miso := .highImpedance }
    pending := s.pending }

/-- RSTn goes low (R146): the reset form, held, with MISO at high impedance. -/
def assertReset (s : State) : State := powerUpForm true false false s

/-- RSTn is released (R146): a frame under way on the sample port is ignored to its end (R27), and a port whose MCSn is
low waits for it to rise (R167). -/
def releaseReset (sfsHigh mcsnLow : Bool) (s : State) : State :=
  if s.control.rstAsserted then
    { s with
      control := { s.control with rstAsserted := false }
      sample := { abandoned := sfsHigh }
      port := { waiting := mcsnLow, miso := .highImpedance } }
  else s

/-- What a RESTART leaves on the line (R143): a frame is cut by the jam, and a jam runs to its end. A frame that has been heard
back has ended, and nothing of it is cut. -/
def cutTransmission : Transmission → Transmission
  | .idle => .idle
  | .frame _ => .resetJam
  | .jam => .resetJam
  | .resetJam => .resetJam

/-- RESTART (R145, R158): CONFIG, with the image and the image-present flag kept and every other block in the form
that power-up gives it. The port keeps its transaction (R167). -/
def restartStation (sfsHigh : Bool) (s : State) : State :=
  { State.reset with
    control := { StationController.powerUpForm with
      image := s.control.image
      imagePresent := s.control.imagePresent
      startError := if s.control.state = .validating then .aborted else .none }
    sample := { abandoned := sfsHigh }
    link := { Link.configForm with
      transmission := cutTransmission s.link.transmission
      ltxen := cutTransmission s.link.transmission != .idle }
    port := s.port
    pending := s.pending }

/-! ### Validation (R149 to R153) -/

/-- The requirements on the descriptor of a point in use (R151). -/
def pointFits (d : PointDesc) : Bool :=
  decide (d.home.toNat ≤ 15) &&
  (d.standby == 0xFF || (decide (d.standby.toNat ≤ 15) && d.standby != d.home)) &&
  (publishOfCode d.publishCode).isSome &&
  (match d.compare with
   | .inside => decide (d.lower.toInt < d.upper.toInt)
   | .outside => decide (d.lower.toInt < d.upper.toInt)
   | .above => true
   | .below => true) &&
  decide (1 ≤ d.assertCount) && decide (d.assertCount ≤ 15) &&
  decide (1 ≤ d.clearCount) && decide (d.clearCount ≤ 15) &&
  decide (d.margin ≤ 4095) &&
  decide (2 ≤ d.freshness) && decide (d.freshness ≤ 4095) &&
  decide (d.deadband ≤ 32767)

/-- A point fails the fourth check (R151). -/
def pointFails (m : List Host.Cell) (p : Point) : Bool := (pointDesc m p).used && !pointFits (pointDesc m p)

/-- A member entry names a point in use that is not VALUE_ONLY (R152). -/
def memberFits (m : List Host.Cell) (b : Byte) : Bool :=
  match pointOfByte b with
  | some p => (pointDesc m p).used && (pointDesc m p).publish != .valueOnly
  | none => false

/-- The requirements on the descriptor of a used group (R152). -/
def groupFits (m : List Host.Cell) (d : GroupDesc) : Bool :=
  decide (d.memberCount ≤ 8) &&
  (d.entries.take d.memberCount).all (memberFits m) &&
  decide ((d.entries.take d.memberCount).Nodup) &&
  decide (1 ≤ d.k) && decide (d.k ≤ d.memberCount) &&
  (policyOfCode d.policyCode).isSome &&
  decide (d.confirm ≤ 4095)

/-- A group fails the fifth check (R152). -/
def groupFails (m : List Host.Cell) (g : Group) : Bool := (groupDesc m g).used && !groupFits m (groupDesc m g)

/-- The byte of the input map for an input (R177). -/
def inputByte (m : List Host.Cell) (i : Input) : Byte := imageByte m (2 + i.val)

/-- An input fails the first pass of the sixth check (R153). -/
def inputFails (m : List Host.Cell) (i : Input) : Bool :=
  inputByte m i != 0xFF &&
  match inputMap m i with
  | none => true
  | some p =>
    !((pointDesc m p).used && (pointDesc m p).serves (ownStation m)) ||
    (List.finRange 8).any (fun j => decide (j < i) && inputByte m j == inputByte m i)

/-- A point fails the second pass of the sixth check: this station serves it, and no input names it (R153). -/
def pointUnbound (m : List Host.Cell) (p : Point) : Bool :=
  (pointDesc m p).used && (pointDesc m p).serves (ownStation m) &&
  !(List.finRange 8).any (fun i => inputMap m i == some p)

/-- The code of the first check that fails, in the order of R150 to R153; NONE when every check passes (R149). -/
def validate (m : List Host.Cell) : StartError :=
  if (imageByte m 0).toNat ≠ Config.formatTag then .badFormat
  else if 15 < (imageByte m 1).toNat then .badStation
  else if presenceInterval m < 2 ∨ 250 < presenceInterval m ∨ silenceMultiple m < 3 ∨ 8 < silenceMultiple m then .badLink
  else match (List.finRange 64).find? (pointFails m) with
    | some p => .badPoint p
    | none => match (List.finRange 16).find? (groupFails m) with
      | some g => .badGroup g
      | none => match (List.finRange 8).find? (inputFails m) with
        | some i => .badInput i
        | none => match (List.finRange 64).find? (pointUnbound m) with
          | some p => .badInputPoint p
          | none => .none

/-! ### The digest (R154, R177) -/

/-- One bit of the reflected CRC-32 (R177): the polynomial 0x04C11DB7 in reflected form is 0xEDB88320. -/
def crc32Bit (c : Word) : Word := if c.getLsbD 0 then (c >>> 1) ^^^ 0xEDB88320#32 else c >>> 1

/-- One byte of the CRC-32, least significant bit first (R177). -/
def crc32Byte (c : Word) (b : Byte) : Word :=
  crc32Bit (crc32Bit (crc32Bit (crc32Bit (crc32Bit (crc32Bit (crc32Bit (crc32Bit (c ^^^ (0#24 ++ b)))))))))

/-- The CRC-32 of a byte list: initial value 0xFFFFFFFF, complemented result (R177). -/
def crc32 (bytes : List Byte) : Word := ~~~ (bytes.foldl crc32Byte 0xFFFFFFFF#32)

/-- The digest of an image: the CRC-32 over bytes 32 to 1343 (R154). -/
def imageDigest (m : List Host.Cell) : Word :=
  crc32 (Memory.readAll m Config.sharedFrom (Config.imageBytes - Config.sharedFrom))

/-! ### The runtime initialization (R155) -/

/-- The initial form of a mirror entry (R5). -/
def initialEntry (d : PointDesc) : MirrorEntry :=
  { MirrorEntry.configForm with inUse := d.used, owner := if d.used then d.homeStation else none }

/-- The initial form of a context (R29); its point's owner is the home (R5). -/
def initialContext (m : List Host.Cell) (i : Input) : Context :=
  match inputMap m i with
  | some p =>
    { Context.configForm with
      point := some p
      role := if (initialEntry (pointDesc m p)).owner = some (ownStation m) then .acting else .shadow
      hit := if (pointDesc m p).publish = .valueOnly then .none else .clear }
  | none => Context.configForm

/-- The initial form of a custody entry (R74). -/
def initialCustody (m : List Host.Cell) (i : Input) : Option CustodyEntry :=
  (inputMap m i).map (fun p =>
    { point := p
      role := if (pointDesc m p).homeStation = some (ownStation m) then .home else .standby
      claimDue := false, reclaimDue := false, yieldDue := false, claimRetry := .stopped, reclaimWait := .stopped,
      holdoff := .stopped, lapsed := false, limitReported := false })

/-- The initial form of the Roster: SELF for the own number (R114, R120, R121). -/
def initialRoster (m : List Host.Cell) : Roster :=
  { Roster.configForm with
    entries := Table.ofFn (fun a =>
      { RosterEntry.configForm with state := if a = ownStation m then .self else .absent }) }

/-- Steps 1 to 7 and 9 of the runtime initialization (R155): every block but the voter takes its initial form. -/
def initialForm (carrier : Bool) (s : State) : State :=
  let m := s.control.image
  { s with
    control := { s.control with
      state := .listen, digest := imageDigest m, listen := Timer.start (silenceLimit m), isolation := .stopped }
    contexts := Table.ofFn (initialContext m)
    mirror := Table.ofFn (fun p => initialEntry (pointDesc m p))
    voter := { s.voter with groups := Table.fill GroupRecord.configForm }
    custody := { table := Table.ofFn (initialCustody m), notices := [] }
    publisher := Publisher.resetForm
    roster := initialRoster m
    link := { Link.configForm with
      rejected := s.link.rejected, transmission := s.link.transmission, ltxen := s.link.ltxen, ignoring := carrier }
    events := { s.events with time := 0 } }

/-- Step 8: every used group evaluated once in increasing group number, and the trip lines set (R48, R62). -/
def firstEvaluation (s : State) : State := setLines ((List.finRange 16).foldl (fun s g => evaluate g s) s)

/-- Validation completes (R149): on a failure the station returns to CONFIG with the code, otherwise it enters LISTEN
with the runtime initialization. `carrier` tells whether carrier is on LRX then (R127). -/
def validationCompletes (carrier : Bool) (s : State) : State :=
  if !s.control.rstAsserted && (s.control.state == .validating) then
    match validate s.control.image with
    | .none => firstEvaluation (initialForm carrier s)
    | err => { s with control := { s.control with state := .config, startError := err } }
  else s

/-! ### LISTEN, RUN and ISOLATED (R156, R157) -/

/-- The Roster on entry to RUN (R120, R121). -/
def startPresence (s : State) : State :=
  { s with roster := { s.roster with presenceTimer := Timer.start (presenceInterval s.control.image),
                                     presencePending := true, firstPresence := false } }

/-- The listen timer expires: the station enters RUN (R156). -/
def listenExpired (s : State) : State :=
  if !s.control.rstAsserted && (s.control.state == .listen) && s.control.listen.due then
    let s1 := raise .runEntered { s with control := { s.control with state := .run, listen := .stopped } }
    reexamineAll (stopHoldoffs (startPresence s1))
  else s

/-- The isolation hold expires: the station enters LISTEN with its runtime state kept (R157). -/
def isolationExpired (s : State) : State :=
  if !s.control.rstAsserted && (s.control.state == .isolated) && s.control.isolation.due then
    let s1 := raise .linkRestored { s with control := { s.control with isolation := .stopped } }
    { s1 with control := { s1.control with state := .listen, listen := Timer.start (silenceLimit s1.control.image) } }
  else s

/-! ### The local time base (R160) -/

/-- A mirror entry after one millisecond: its age counts up and saturates (R17), its freshness timer runs (R14). -/
def MirrorEntry.tick (e : MirrorEntry) : MirrorEntry :=
  { e with age := min (e.age + 1) Config.ageLimit, freshness := e.freshness.tick }

/-- A custody entry after one millisecond (R74). -/
def CustodyEntry.tick (c : CustodyEntry) : CustodyEntry :=
  { c with claimRetry := c.claimRetry.tick, reclaimWait := c.reclaimWait.tick, holdoff := c.holdoff.tick }

/-- One millisecond of the local time base in LISTEN, RUN and ISOLATED (R160): the local time counts up and wraps, every
age counts up, and the timers of every block count. -/
def tick (s : State) : State :=
  if s.active then
    { s with
      control := { s.control with listen := s.control.listen.tick, isolation := s.control.isolation.tick }
      mirror := s.mirror.map MirrorEntry.tick
      voter := { s.voter with groups := s.voter.groups.map (fun r => { r with confirm := r.confirm.tick }) }
      custody := { s.custody with table := s.custody.table.map (fun o => o.map CustodyEntry.tick) }
      publisher := { s.publisher with records := s.publisher.records.map (fun r => { r with refresh := r.refresh.tick }) }
      roster := { s.roster with
        entries := s.roster.entries.map (fun r => { r with silence := r.silence.tick })
        presenceTimer := s.roster.presenceTimer.tick }
      events := { s.events with time := s.events.time + 1 } }
  else s

end Sys2Proof.Machine
end

