-- ==== Sys2Proof/Machine/Port.lean ====
section
/-! DEFINITION. The host commands at their taken moment (10.3, 10.4): the checks of R168 in order, the effects each
owning block's rule gives, and the response bytes of R178. -/

namespace Sys2Proof.Machine

/-! ### Response data (R178) -/

/-- The 13 data bytes of READ-STATUS (R169, R178). -/
def statusData (s : State) : List Byte :=
  [stationStateCode s.control.state, startErrorCode s.control.startError, startErrorSubject s.control.startError,
   flagItem s.control.imagePresent] ++
  (Half.bytes (BitVec.ofNat 16 s.link.rejected) ++
  ([BitVec.ofNat 8 s.link.failures, BitVec.ofNat 8 s.events.records.length, flagItem s.events.overflow] ++
  Word.bytes s.events.time))

/-- The role of the context bound to a point; IDLE stands for not bound (R23). -/
def State.roleOf (s : State) (p : Point) : Role :=
  match s.boundContext p with
  | some c => c.role
  | none => .idle

/-- The 12 data bytes of READ-POINT (R23, R178). -/
def pointData (s : State) (p : Point) : List Byte :=
  let e := s.mirror.get p
  [flag e.inUse 0 ||| flag e.value.isSome 1, stationByte e.owner] ++
  (Half.bytes e.epoch ++
  ([qualityByte e.quality, hitByte e.hit] ++
  (Half.bytes (e.value.getD 0) ++
  (Half.bytes (BitVec.ofNat 16 e.age) ++ [latchByte e.latch, roleByte (s.roleOf p)]))))

/-- The 14 data bytes of READ-GROUP (R63, R178). An unused group is reported neither satisfied nor without basis. -/
def groupData (s : State) (g : Group) : List Byte :=
  let d := s.groupDesc g
  let r := s.voter.groups.get g
  [groupStateCode r.state, causeCode r.cause, stationByte (Cause.announcer r.cause),
   BitVec.ofNat 8 r.hitVotes, BitVec.ofNat 8 r.clearVotes, BitVec.ofNat 8 r.excluded,
   BitVec.ofNat 8 (if d.used then required d r else 0),
   flag (d.used && satisfied d r) 0 ||| flag (d.used && noBasis d r) 1 ||| flag r.announceOwed 2] ++
  (Half.bytes (BitVec.ofNat 16 (if r.state = .arming then r.confirm.left else 0)) ++ Word.bytes r.stamp)

/-- The 12 data bytes of READ-ROSTER (R124, R178). -/
def rosterData (s : State) (a : Station) : List Byte :=
  let r := s.roster.entries.get a
  [rosterStateCode r.state, flagItem r.lastDigest.isSome] ++
  (Word.bytes (r.lastDigest.getD 0) ++
  (Word.bytes s.control.digest ++
  Half.bytes (BitVec.ofNat 16 (if r.state = .present then r.silence.left else 0))))

/-! ### The image and the life cycle (R147, R148, R158, R170) -/

/-- WRITE-IMAGE (R147, R170). -/
def writeImage (off : Half) (data : List Byte) (s : State) : State :=
  match s.control.state with
  | .config =>
    if imageRange off data.length then
      { s with control := { s.control with image := Memory.writeAll s.control.image off.toNat data, imagePresent := true } }.answer (statusOk [])
    else s.answer statusBadArgument
  | .validating => s.answer statusBusy
  | .listen => s.answer statusBadState
  | .run => s.answer statusBadState
  | .isolated => s.answer statusBadState

/-- READ-IMAGE, in every state (R170). -/
def readImage (off count : Half) (s : State) : State :=
  if imageRange off count.toNat then s.answer (statusOk (Memory.readAll s.control.image off.toNat count.toNat))
  else s.answer statusBadArgument

/-- START (R148). -/
def startStation (s : State) : State :=
  match s.control.state with
  | .config =>
    if s.control.imagePresent then
      { s with control := { s.control with state := .validating, startError := .none } }.answer (statusOk [])
    else { s with control := { s.control with startError := .noImage } }.answer (statusRefused .noImage)
  | .validating => s.answer statusBusy
  | .listen => s.answer statusBadState
  | .run => s.answer statusBadState
  | .isolated => s.answer statusBadState

/-! ### Reading (R23, R63, R124, R169) -/

/-- READ-STATUS: the items are taken, and then the rejected-frame count is 0 (R129, R169). -/
def readStatus (s : State) : State :=
  { s with link := { s.link with rejected := 0 } }.answer (statusOk (statusData s))

/-- A command taken in LISTEN, RUN and ISOLATED alone, with an argument in range, or else BAD_STATE or BAD_ARGUMENT in
that order (R168). -/
def inRuntime {α : Type} (arg : Option α) (f : α → State → State) (s : State) : State :=
  if s.control.state.runtime then
    match arg with
    | some a => f a s
    | none => s.answer statusBadArgument
  else s.answer statusBadState

/-- READ-POINT (R23). -/
def readPoint (point : Byte) (s : State) : State :=
  inRuntime (pointOfByte point) (fun p s => s.answer (statusOk (pointData s p))) s

/-- READ-GROUP (R63). -/
def readGroup (group : Byte) (s : State) : State :=
  inRuntime (groupOfByte group) (fun g s => s.answer (statusOk (groupData s g))) s

/-- READ-ROSTER (R124). -/
def readRoster (station : Byte) (s : State) : State :=
  inRuntime (stationOfByte station) (fun a s => s.answer (statusOk (rosterData s a))) s

/-! ### Events and latches (R19, R165) -/

/-- POP-EVENT, in every state (R164, R165). -/
def popEvent (s : State) : State :=
  match s.events.records with
  | r :: rest =>
    { s with events := { s.events with records := rest, overflow := false, attn := !rest.isEmpty } }.answer
      (statusOk (eventData r s.events.overflow))
  | [] => { s with events := { s.events with overflow := false } }.answer statusEmpty

/-- CLEAR-LATCH (R19). -/
def clearLatchCommand (point : Byte) (s : State) : State :=
  inRuntime (pointOfByte point)
    (fun p s => if (s.mirror.get p).inUse then (clearLatch p s).answer (statusOk []) else s.answer statusBadArgument) s

/-! ### Releases and reclaims (R87, R105) -/

/-- RELEASE of a group 0–15 in RUN: the own checks of R105, in order. -/
def releaseGroup (g : Group) (s : State) : State :=
  let d := s.groupDesc g
  let r := s.voter.groups.get g
  if r.state ≠ .tripped then s.answer (statusRefused .notTripped)
  else if satisfied d r then s.answer (statusRefused .satisfied)
  else if noBasis d r then s.answer (statusRefused .noBasis)
  else match offerTo s.link.urgent (.release g) with
    | some q => (s.withUrgent q).answer (statusOk [])
    | none => s.answer statusBusy

/-- RELEASE (R105). -/
def releaseCommand (group : Byte) (s : State) : State :=
  if s.control.state = .run then
    match groupOfByte group with
    | some g => releaseGroup g s
    | none => s.answer statusBadArgument
  else s.answer statusBadState

/-- RECLAIM (R87). -/
def reclaimCommand (s : State) : State :=
  if s.control.state = .run then (reexamineAll (stopHoldoffs s)).answer (statusOk []) else s.answer statusBadState

/-- A command byte (R168, check 1): one that names no command is answered BAD_ARGUMENT. -/
def unknownCommand (code : Byte) (s : State) : State :=
  if namesCommand code then s else s.answer statusBadArgument

/-- Byte `n` of what a transaction shifts out on MISO: 0x00 while the `shiftedIn` bytes of the command and its arguments
come in, then the response, then 0x00 (R167). -/
def misoByte (shiftedIn : Nat) (response : List Byte) (n : Nat) : Byte :=
  if n < shiftedIn then 0 else response.getD (n - shiftedIn) 0

/-- The level of MISO in bit time `n` after the fall of MCSn, none for high impedance (R146, R167). Bytes go out most
significant bit first: 0x00 for the `shiftedIn` bytes of the command and its arguments, and then the response. -/
def State.misoLevel (s : State) (mcsnHigh : Bool) (shiftedIn n : Nat) : Option Bool :=
  if s.control.rstAsserted || mcsnHigh then none
  else if s.port.waiting then Config.waitingMiso n
  else match s.port.miso with
    | .highImpedance => some false
    | .response bytes => some ((misoByte shiftedIn bytes (n / 8)).getLsbD (7 - n % 8))

end Sys2Proof.Machine
end

