-- ==== Sys2Proof/Machine/HostCommands.lean ====
section
/-! DEFINITION. The meanings of the host commands of the management port. -/

namespace Sys2Proof.Machine

/-- WRITE_IMAGE (R147, R170). -/
def execWriteImage (offset : Half) (data : List Byte) (s : State) : Host.Outcome State Fault Refusal :=
  .next (hostCommand (writeImage offset data) s)

/-- READ_IMAGE (R170). -/
def execReadImage (offset count : Half) (s : State) : Host.Outcome State Fault Refusal :=
  .next (hostCommand (readImage offset count) s)

/-- START (R148). -/
def execStart (s : State) : Host.Outcome State Fault Refusal := .next (hostCommand startStation s)

/-- RESTART (R158), answered OK once it has taken effect (R167). -/
def execRestart (sfsHigh : Bool) (s : State) : Host.Outcome State Fault Refusal :=
  .next (hostCommand (fun s => (restartStation sfsHigh s).answer [0x00]) s)

/-- READ_STATUS (R169). -/
def execReadStatus (s : State) : Host.Outcome State Fault Refusal := .next (hostCommand readStatus s)

/-- READ_POINT (R23). -/
def execReadPoint (point : Byte) (s : State) : Host.Outcome State Fault Refusal :=
  .next (hostCommand (readPoint point) s)

/-- READ_GROUP (R63). -/
def execReadGroup (group : Byte) (s : State) : Host.Outcome State Fault Refusal :=
  .next (hostCommand (readGroup group) s)

/-- READ_ROSTER (R124). -/
def execReadRoster (station : Byte) (s : State) : Host.Outcome State Fault Refusal :=
  .next (hostCommand (readRoster station) s)

/-- POP_EVENT (R165). -/
def execPopEvent (s : State) : Host.Outcome State Fault Refusal := .next (hostCommand popEvent s)

/-- CLEAR_LATCH (R19). -/
def execClearLatch (point : Byte) (s : State) : Host.Outcome State Fault Refusal :=
  .next (hostCommand (clearLatchCommand point) s)

/-- RELEASE (R105). -/
def execRelease (group : Byte) (s : State) : Host.Outcome State Fault Refusal :=
  .next (hostCommand (releaseCommand group) s)

/-- RECLAIM (R87). -/
def execReclaim (s : State) : Host.Outcome State Fault Refusal := .next (hostCommand reclaimCommand s)

/-- UNKNOWN_COMMAND_BYTE (R168). -/
def execUnknownCommandByte (code : Byte) (s : State) : Host.Outcome State Fault Refusal :=
  .next (hostCommand (unknownCommand code) s)

/-- PARTIAL_COMMAND_DISCARDED (R167): MCSn rises, nothing is changed and nothing is answered. -/
def execPartialCommandDiscarded (s : State) : Host.Outcome State Fault Refusal :=
  .next (hostCommand State.unanswered s)

end Sys2Proof.Machine
end

