-- ==== Sys2Proof/Machine/LinkCommands.lean ====
section
/-! DEFINITION. The meanings of the commands of access, sending and collisions. -/

namespace Sys2Proof.Machine

/-- IDLE_EVENT (R127, R135, R136). -/
def execIdleEvent (s : State) : Host.Outcome State Fault Refusal := .next (idleEvent s)

/-- CARRIER_SEEN (R138). -/
def execCarrierSeen (s : State) : Host.Outcome State Fault Refusal := .next (carrierSeen s)

/-- WIN (R138, R139). -/
def execWin (s : State) : Host.Outcome State Fault Refusal := .next (winSlot s)

/-- COMPLETION (R132, R140). -/
def execCompletion (s : State) : Host.Outcome State Fault Refusal := .next (completeFrame s)

/-- COLLISION (R141, R142). -/
def execCollision (s : State) : Host.Outcome State Fault Refusal := .next (collideFrame s)

/-- JAM_END (R141, R142, R143). -/
def execJamEnd (s : State) : Host.Outcome State Fault Refusal := .next (endJam s)

end Sys2Proof.Machine
end

