-- ==== Sys2Proof/Machine/ResetCommands.lean ====
section
/-! DEFINITION. The meanings of the reset, life-cycle and time commands. -/

namespace Sys2Proof.Machine

/-- POWER_UP (R146): power-up acts as RSTn held asserted, and the station then starts as on its release. RSTn is taken to be
released as power-up ends, whatever its level was before: DESIGN CHOICE, log entry 23. -/
def execPowerUp (sfsHigh mcsnLow : Bool) (s : State) : Host.Outcome State Fault Refusal :=
  .next (powerUpForm false sfsHigh mcsnLow s)

/-- RSTN_ASSERTED (R146). -/
def execRstnAsserted (s : State) : Host.Outcome State Fault Refusal := .next (assertReset s)

/-- RSTN_RELEASED (R146, R27, R167). -/
def execRstnReleased (sfsHigh mcsnLow : Bool) (s : State) : Host.Outcome State Fault Refusal :=
  .next (releaseReset sfsHigh mcsnLow s)

/-- VALIDATION_COMPLETION (R149, R155). -/
def execValidationCompletion (carrier : Bool) (s : State) : Host.Outcome State Fault Refusal :=
  .next (validationCompletes carrier s)

/-- LISTEN_TIMER_EXPIRY (R156). -/
def execListenTimerExpiry (s : State) : Host.Outcome State Fault Refusal := .next (listenExpired s)

/-- ISOLATION_HOLD_EXPIRY (R157). -/
def execIsolationHoldExpiry (s : State) : Host.Outcome State Fault Refusal := .next (isolationExpired s)

/-- LOCAL_TIME_TICK (R160, R17). -/
def execLocalTimeTick (s : State) : Host.Outcome State Fault Refusal := .next (tick s)

end Sys2Proof.Machine
end

