-- ==== Sys2Proof/Machine/SampleCommands.lean ====
section
/-! DEFINITION. The meaning of the sample port's command. -/

namespace Sys2Proof.Machine

/-- SAMPLE_ARRIVAL (R24 to R27, R39, R40). -/
def execSampleArrival (bits : List Bool) (s : State) : Host.Outcome State Fault Refusal := .next (sampleEnds bits s)

end Sys2Proof.Machine
end

