-- ==== Sys2Proof/Machine/TimerCommands.lean ====
section
/-! DEFINITION. The meanings of the expiries of the mirror's, the voter's, the Publisher's, the Custody Controller's and
the Roster's timers. -/

namespace Sys2Proof.Machine

/-- FRESHNESS_EXPIRY (R15). -/
def execFreshnessExpiry (p : Point) (s : State) : Host.Outcome State Fault Refusal := .next (freshnessExpired p s)

/-- CONFIRM_TIMER_EXPIRY (R54). -/
def execConfirmTimerExpiry (g : Group) (s : State) : Host.Outcome State Fault Refusal := .next (confirmExpiry g s)

/-- REFRESH_TIMER_EXPIRY (R92). -/
def execRefreshTimerExpiry (p : Point) (s : State) : Host.Outcome State Fault Refusal := .next (refreshExpiry p s)

/-- CLAIM_RETRY_EXPIRY (R84). -/
def execClaimRetryExpiry (i : Input) (s : State) : Host.Outcome State Fault Refusal := .next (claimRetryExpired i s)

/-- RECLAIM_WAIT_EXPIRY (R85). -/
def execReclaimWaitExpiry (i : Input) (s : State) : Host.Outcome State Fault Refusal := .next (reclaimWaitExpired i s)

/-- HOLDOFF_EXPIRY (R86). -/
def execHoldoffExpiry (i : Input) (s : State) : Host.Outcome State Fault Refusal := .next (holdoffExpired i s)

/-- SILENCE_TIMER_EXPIRY (R118). -/
def execSilenceTimerExpiry (a : Station) (s : State) : Host.Outcome State Fault Refusal := .next (silenceExpired a s)

/-- PRESENCE_TIMER_EXPIRY (R120). -/
def execPresenceTimerExpiry (s : State) : Host.Outcome State Fault Refusal := .next (presenceExpired s)

end Sys2Proof.Machine
end

