-- ==== Sys2Proof/Machine/Dispatch.lean ====
section
/-! DEFINITION. The effect of a command on everything but the queue of commands that wait: one arm per row of the
opcode table. -/

namespace Sys2Proof.Machine

def exec (i : Instr) (s : State) : Host.Outcome State Fault Refusal :=
  match i with
  | .powerUp sfsHigh mcsnLow => Sys2Proof.Machine.execPowerUp sfsHigh mcsnLow s
  | .rstnAsserted => Sys2Proof.Machine.execRstnAsserted s
  | .rstnReleased sfsHigh mcsnLow => Sys2Proof.Machine.execRstnReleased sfsHigh mcsnLow s
  | .sampleArrival bits => Sys2Proof.Machine.execSampleArrival bits s
  | .pointFrame bytes => Sys2Proof.Machine.execPointFrame bytes s
  | .claimFrame bytes => Sys2Proof.Machine.execClaimFrame bytes s
  | .yieldFrame bytes => Sys2Proof.Machine.execYieldFrame bytes s
  | .reclaimFrame bytes => Sys2Proof.Machine.execReclaimFrame bytes s
  | .trippedFrame bytes => Sys2Proof.Machine.execTrippedFrame bytes s
  | .releaseFrame bytes => Sys2Proof.Machine.execReleaseFrame bytes s
  | .presenceFrame bytes => Sys2Proof.Machine.execPresenceFrame bytes s
  | .badFrame bytes => Sys2Proof.Machine.execBadFrame bytes s
  | .jam => Sys2Proof.Machine.execJam s
  | .truncatedFrame => Sys2Proof.Machine.execTruncatedFrame s
  | .idleEvent => Sys2Proof.Machine.execIdleEvent s
  | .carrierSeen => Sys2Proof.Machine.execCarrierSeen s
  | .win => Sys2Proof.Machine.execWin s
  | .completion => Sys2Proof.Machine.execCompletion s
  | .collision => Sys2Proof.Machine.execCollision s
  | .jamEnd => Sys2Proof.Machine.execJamEnd s
  | .freshnessExpiry p => Sys2Proof.Machine.execFreshnessExpiry p s
  | .confirmTimerExpiry g => Sys2Proof.Machine.execConfirmTimerExpiry g s
  | .refreshTimerExpiry p => Sys2Proof.Machine.execRefreshTimerExpiry p s
  | .claimRetryExpiry n => Sys2Proof.Machine.execClaimRetryExpiry n s
  | .reclaimWaitExpiry n => Sys2Proof.Machine.execReclaimWaitExpiry n s
  | .holdoffExpiry n => Sys2Proof.Machine.execHoldoffExpiry n s
  | .silenceTimerExpiry a => Sys2Proof.Machine.execSilenceTimerExpiry a s
  | .presenceTimerExpiry => Sys2Proof.Machine.execPresenceTimerExpiry s
  | .listenTimerExpiry => Sys2Proof.Machine.execListenTimerExpiry s
  | .isolationHoldExpiry => Sys2Proof.Machine.execIsolationHoldExpiry s
  | .validationCompletion carrier => Sys2Proof.Machine.execValidationCompletion carrier s
  | .writeImage offset data => Sys2Proof.Machine.execWriteImage offset data s
  | .readImage offset count => Sys2Proof.Machine.execReadImage offset count s
  | .start => Sys2Proof.Machine.execStart s
  | .restart sfsHigh => Sys2Proof.Machine.execRestart sfsHigh s
  | .readStatus => Sys2Proof.Machine.execReadStatus s
  | .readPoint point => Sys2Proof.Machine.execReadPoint point s
  | .readGroup group => Sys2Proof.Machine.execReadGroup group s
  | .readRoster station => Sys2Proof.Machine.execReadRoster station s
  | .popEvent => Sys2Proof.Machine.execPopEvent s
  | .clearLatch point => Sys2Proof.Machine.execClearLatch point s
  | .release group => Sys2Proof.Machine.execRelease group s
  | .reclaim => Sys2Proof.Machine.execReclaim s
  | .unknownCommandByte code => Sys2Proof.Machine.execUnknownCommandByte code s
  | .partialCommandDiscarded => Sys2Proof.Machine.execPartialCommandDiscarded s
  | .localTimeTick => Sys2Proof.Machine.execLocalTimeTick s

end Sys2Proof.Machine
end

