-- ==== Sys2Proof/Machine/LineCode.lean ====
section
/-! DEFINITION. The line code of the peer link (R126, R173): the bit-time symbols of a frame and of a jam, the levels they
put on LTX, the comparison of what is sent with what is received (R140), how a receiver cuts the levels on LRX into carrier
episodes and sorts each (R128), and the commands that all this gives. -/

namespace Sys2Proof.Machine

/-- What one bit time of 0.5 µs carries (R173). -/
inductive Symbol where
  | zero | one
  /-- Low for the whole bit time. -/
  | j
  /-- High for the whole bit time. -/
  | k
deriving DecidableEq, Repr

/-- The levels of the two half-cells of a symbol, `true` for high (R173). -/
def Symbol.levels : Symbol → Bool × Bool
  | .zero => (false, true)
  | .one => (true, false)
  | .j => (false, false)
  | .k => (true, true)

/-- The symbol whose half-cells stand at these levels: every pair of levels is one (R173). -/
def symbolOf : Bool → Bool → Symbol
  | false, true => .zero
  | true, false => .one
  | false, false => .j
  | true, true => .k

/-- Every half-cell at the low level is carrier (R173). -/
def carrierLevel (level : Bool) : Bool := !level

/-- A symbol with a half-cell of carrier: every symbol but K, which lies at the idle level (R173). -/
def Symbol.carrier (x : Symbol) : Bool := carrierLevel x.levels.1 || carrierLevel x.levels.2

/-- The symbol of a data bit (R173). -/
def bitSymbol (b : Bool) : Symbol := if b then .one else .zero

/-- The data bit a symbol carries; J and K carry none (R173). -/
def Symbol.bit : Symbol → Option Bool
  | .zero => some false
  | .one => some true
  | .j => none
  | .k => none

/-- The start delimiter K J 1 0 J K 0 1 (R173). -/
def startDelimiter : List Symbol := [.k, .j, .one, .zero, .j, .k, .zero, .one]

/-- The end delimiter J K 0 1 K J 1 0 (R173). -/
def endDelimiter : List Symbol := [.j, .k, .zero, .one, .k, .j, .one, .zero]

/-- The jam: J repeated 32 times (R173). -/
def jamSymbols : List Symbol := List.replicate 32 .j

/-- The symbols of a byte, most significant bit first (R173). -/
def byteSymbols (b : Byte) : List Symbol :=
  [bitSymbol (b.getLsbD 7), bitSymbol (b.getLsbD 6), bitSymbol (b.getLsbD 5), bitSymbol (b.getLsbD 4),
   bitSymbol (b.getLsbD 3), bitSymbol (b.getLsbD 2), bitSymbol (b.getLsbD 1), bitSymbol (b.getLsbD 0)]

/-- A frame on the line: a start delimiter, the frame bytes, an end delimiter (R126). -/
def lineSymbols (bytes : List Byte) : List Symbol := startDelimiter ++ (bytes.flatMap byteSymbols ++ endDelimiter)

/-- What the station drives on LTX for what it is sending; nothing while it is idle (R125). -/
def Transmission.symbols : Transmission → List Symbol
  | .idle => []
  | .frame f => lineSymbols f.bytes
  | .jam => jamSymbols
  | .resetJam => jamSymbols

/-- The level of LTX in half-cell `n` of what the station is sending; the idle level is high (R125, R173). -/
def Transmission.level (t : Transmission) (n : Nat) : Bool :=
  match t.symbols[n / 2]? with
  | some x => if n % 2 = 0 then x.levels.1 else x.levels.2
  | none => true

/-- The time that symbols hold the line, in microseconds: two bit times to the microsecond (R173). -/
def lineMicros (xs : List Symbol) : Nat := xs.length / 2

/-- The half-cells of symbols in time (R173). -/
def cells (xs : List Symbol) : List Bool := xs.flatMap (fun x => [x.levels.1, x.levels.2])

/-! ### The transmitter's comparison (R140, R173) -/

/-- The first bit time in which the symbols received differ from those sent; a line that has gone quiet is at the idle
level, which is that of K (R140). -/
def firstDisagreement : List Symbol → List Symbol → Option Nat
  | [], _ => none
  | x :: xs, heard => if heard.headD .k = x then (firstDisagreement xs heard.tail).map (· + 1) else some 0

/-- What the station drives on LTX for a frame: all of it, or, from the bit time after a disagreement on, the jam (R140,
R141, R173). -/
def drivenSymbols (sent heard : List Symbol) : List Symbol :=
  match firstDisagreement sent heard with
  | none => sent
  | some n => sent.take (n + 1) ++ jamSymbols

/-- The command that ends what the station is sending (R140, R141): delimiters and frame bytes are compared bit by bit, and
agree throughout for a COMPLETION. -/
def Transmission.endCommand (t : Transmission) (heard : List Symbol) : Option Instr :=
  match t with
  | .idle => none
  | .frame _ => some (if (firstDisagreement t.symbols heard).isNone then .completion else .collision)
  | .jam => some .jamEnd
  | .resetJam => some .jamEnd

/-- The jam is compared in the same way (R173). It is no frame, so a disagreement in it is a COLLISION that finds nothing more
to stop: the station is jamming already (log entry 2). -/
def jamComparison (heard : List Symbol) : Option Instr :=
  if (firstDisagreement jamSymbols heard).isNone then none else some .collision

/-! ### Cutting the line into episodes (R128, R173) -/

/-- The half-cells of quiet: the idle level held for 2 µs (R173). -/
def quietCells : Nat := 8

/-- The carrier episodes in the half-cells of LRX, each from its first carrier to its last before the quiet that ends it
(R128, R173). `open'` holds the half-cells of an episode under way up to its last carrier, and `idle` counts those at the idle
level since. -/
def splitEpisodes (open' : Option (List Bool)) (idle : Nat) : List Bool → List (List Bool)
  | [] => []
  | level :: rest =>
    match open' with
    | none => if carrierLevel level then splitEpisodes (some [level]) 0 rest else splitEpisodes none 0 rest
    | some e =>
      if carrierLevel level then splitEpisodes (some (e ++ (List.replicate idle true ++ [level]))) 0 rest
      else if idle + 1 = quietCells then e :: splitEpisodes none 0 rest
      else splitEpisodes (some e) (idle + 1) rest

/-- The symbols of an episode. Its first carrier begins a bit time, and a last bit time that ends at the idle level is
filled up with it: the episode of a frame begins at the J after the leading K (R173). -/
def episodeSymbols : List Bool → List Symbol
  | a :: b :: rest => symbolOf a b :: episodeSymbols rest
  | [a] => [symbolOf a true]
  | [] => []

/-! ### Sorting an episode (R128) -/

/-- Three or more consecutive J symbols are the jam signal (R173). -/
def hasJam : List Symbol → Bool
  | [] => false
  | x :: xs => (x == .j && (xs.take 2 == [.j, .j])) || hasJam xs

/-- The byte that eight symbols carry, first symbol most significant; none where one of them is J or K (R173). -/
def symbolsByte (a b c d e f g h : Symbol) : Option Byte :=
  match a.bit, b.bit, c.bit, d.bit, e.bit, f.bit, g.bit, h.bit with
  | some b7, some b6, some b5, some b4, some b3, some b2, some b1, some b0 =>
    some (BitVec.ofBool b7 ++ BitVec.ofBool b6 ++ BitVec.ofBool b5 ++ BitVec.ofBool b4 ++
      BitVec.ofBool b3 ++ BitVec.ofBool b2 ++ BitVec.ofBool b1 ++ BitVec.ofBool b0)
  | _, _, _, _, _, _, _, _ => none

/-- The bytes up to the end delimiter; none where the symbols end, or stop being bytes, ahead of it (R128). -/
def gatherBytes : List Symbol → Option (List Byte)
  | a :: b :: c :: d :: e :: f :: g :: h :: rest =>
    if [a, b, c, d, e, f, g, h] = endDelimiter then some []
    else match symbolsByte a b c d e f g h with
      | some x => (gatherBytes rest).map (x :: ·)
      | none => none
  | _ => none

/-- The outcome of a carrier episode (R128). -/
inductive Episode where
  | frame (bytes : List Byte)
  | jam
  | truncated
deriving DecidableEq, Repr

/-- What a receiver sees of the start delimiter: carrier begins at the J after its leading K (R126, R173). -/
def seenDelimiter : List Symbol := startDelimiter.dropWhile (fun x => !x.carrier)

/-- A carrier episode sorted (R128): the jam signal decides first; then a frame needs both delimiters. -/
def sortEpisode (xs : List Symbol) : Episode :=
  if hasJam xs then .jam
  else if xs.take seenDelimiter.length = seenDelimiter then
    match gatherBytes (xs.drop seenDelimiter.length) with
    | some bytes => .frame bytes
    | none => .truncated
  else .truncated

/-- The episodes that a receiver takes from the half-cells of LRX, sorted, in time (R128). -/
def receivedEpisodes (line : List Bool) : List Episode :=
  (splitEpisodes none 0 line).map (fun e => sortEpisode (episodeSymbols e))

/-- The command of the table that an episode gives: a received frame by its kind and subkind (R102, R128, R129). -/
def Episode.command : Episode → Instr
  | .jam => .jam
  | .truncated => .truncatedFrame
  | .frame bytes =>
    match parseFrame bytes with
    | none => .badFrame bytes
    | some f => match f.payload with
      | .presence _ _ _ => .presenceFrame bytes
      | .point _ => .pointFrame bytes
      | .claim _ => .claimFrame bytes
      | .yield _ => .yieldFrame bytes
      | .reclaim _ => .reclaimFrame bytes
      | .trip _ subkind => if subkind = 2 then .releaseFrame bytes else .trippedFrame bytes

end Sys2Proof.Machine
end

