-- ==== Sys2Proof/Safety.lean ====
section
/-! DEFINITION. What a sound state of the device is: the laws of the device that the manual names, and the relations
between its tables that its rules give. Each is a condition on one state; every step keeps it. -/

namespace Sys2Proof.Safety

open Sys2Proof.Machine

/-- A device held in reset is in CONFIG (R146). -/
def ResetLaw (s : State) : Prop := s.control.rstAsserted = true → s.control.state = .config

/-- The image that a runtime acts on is one that validation passed (R147, R149). -/
def ValidatedLaw (s : State) : Prop :=
  ResetLaw s ∧ (s.control.state.runtime = true → validate s.control.image = .none)

/-- The image store is in canonical form and lies within the 1344 bytes of the image (R145, R177). -/
def ImageLaw (s : State) : Prop := Memory.wf s.control.image = true

/-- The urgent queue never holds more than 8 requests, nor two of the same kind for the same subject (R133). -/
def UrgentLaw (s : State) : Prop := s.link.urgent.Nodup ∧ s.link.urgent.length ≤ Config.urgentCapacity

/-- The event queue never holds more than 32 records (R163), ATTN follows it (R164), and the overflow flag is set only
while the queue is full (R163). -/
def EventLaw (s : State) : Prop :=
  s.events.records.length ≤ Config.eventCapacity ∧
  s.events.attn = !s.events.records.isEmpty ∧
  (s.events.overflow = true → s.events.records.length = Config.eventCapacity)

/-- The local time is 0 in CONFIG and VALIDATING (R160). -/
def TimeLaw (s : State) : Prop := s.control.state.runtime = false → s.events.time = 0

/-- The notice list never holds more than 8 entries, nor two entries for the same point (R72). -/
def NoticeLaw (s : State) : Prop :=
  (s.custody.notices.map Notice.point).Nodup ∧ s.custody.notices.length ≤ Config.noticeCapacity

/-- This station owns a point, in a state in which the runtime blocks act. -/
def Acts (s : State) (p : Point) : Prop := s.active = true ∧ (s.mirror.get p).owner = some s.own

/-- The publish list never holds a point twice, and holds only points this station owns (R89); a point it does not own has
no running refresh timer and is not carried (R99). -/
def PublishLaw (s : State) : Prop :=
  s.publisher.list.Nodup ∧
  (∀ p ∈ s.publisher.list, Acts s p) ∧
  ∀ p, (s.publisher.records.get p).refresh ≠ .stopped ∨ (s.publisher.records.get p).carried = true → Acts s p

/-- The trip lines follow the group records, and are all asserted in CONFIG, VALIDATING and reset (R61). -/
def LineLaw (s : State) : Prop := ResetLaw s ∧ s.voter.lines = s.lineLevels

/-- The role that a mirror gives the context of a point: ACTING exactly while it names this station (R30). -/
def roleFor (s : State) : Option Point → Role
  | none => .idle
  | some p => if (s.mirror.get p).owner = some s.own then .acting else .shadow

/-- The role of each context is held to the mirror; in CONFIG and VALIDATING every context is unbound and IDLE (R30). -/
def RoleLaw (s : State) : Prop :=
  ResetLaw s ∧ ∀ i,
    (s.control.state.runtime = true → (s.contexts.get i).role = roleFor s (s.contexts.get i).point) ∧
    (s.control.state.runtime = false → (s.contexts.get i).point = none ∧ (s.contexts.get i).role = .idle)

/-- A group's confirm timer runs exactly while it is in ARMING (R53); a cause is present exactly in TRIPPED, and an
announcement is owed in TRIPPED alone (R46, R60). -/
def GroupLaw (s : State) : Prop :=
  ∀ g, ((s.voter.groups.get g).confirm ≠ .stopped ↔ (s.voter.groups.get g).state = .arming) ∧
    ((s.voter.groups.get g).cause ≠ none ↔ (s.voter.groups.get g).state = .tripped) ∧
    ((s.voter.groups.get g).announceOwed = true → (s.voter.groups.get g).state = .tripped)

/-- The counts of a group describe the mirror as it stands (R105); an unused group is CLEAR with all counts 0 (R44,
R63). -/
def VoteLaw (s : State) : Prop :=
  ResetLaw s ∧ (s.control.state.runtime = true → ∀ g,
    ((s.groupDesc g).used = true →
      (s.voter.groups.get g).hitVotes = (votes (s.groupDesc g) s.mirror).count .hit ∧
      (s.voter.groups.get g).clearVotes = (votes (s.groupDesc g) s.mirror).count .clear ∧
      (s.voter.groups.get g).excluded = (votes (s.groupDesc g) s.mirror).count .excluded) ∧
    ((s.groupDesc g).used = false → s.voter.groups.get g = GroupRecord.configForm))

/-- The state of a used group stands as its counts have it: CLEAR neither satisfied nor without basis, ARMING satisfied
with a confirm time above 0, FAULT without basis; TRIPPED is latched (R52 to R57). -/
def standingFits (d : GroupDesc) (r : GroupRecord) : Bool :=
  match r.state with
  | .clear => !satisfied d r && !noBasis d r
  | .arming => satisfied d r && d.confirm != 0
  | .fault => noBasis d r
  | .tripped => true

/-- Every used group stands as its counts have it (R52 to R57). -/
def StandingLaw (s : State) : Prop :=
  ResetLaw s ∧ (s.control.state.runtime = true →
    ∀ g, (s.groupDesc g).used = true → standingFits (s.groupDesc g) (s.voter.groups.get g) = true)

/-- The fixed contents of an entry not in use, but for its age (R3). -/
def unusedEntry (age : Nat) : MirrorEntry := { MirrorEntry.configForm with age := age }

/-- In use follows the image; an entry in use names its home or its standby as owner (R64), an entry not in use keeps its
fixed contents, and no context is bound to it (R3). -/
def OwnerLaw (s : State) : Prop :=
  ResetLaw s ∧ (s.control.state.runtime = true →
    (∀ p, (s.mirror.get p).inUse = (s.desc p).used ∧
      ((s.mirror.get p).inUse = true → ∃ a, (s.mirror.get p).owner = some a ∧ (s.desc p).serves a = true) ∧
      ((s.mirror.get p).inUse = false → s.mirror.get p = unusedEntry (s.mirror.get p).age)) ∧
    ∀ i p, (s.contexts.get i).point = some p → (s.mirror.get p).inUse = true)

/-- The hit and the debounce state of a context lie within what the evaluation rules reach (R28, R36 to R38, R43). -/
def debounceFits (d : PointDesc) (c : Context) : Bool :=
  if d.publish = .valueOnly then
    c.hit == .none && c.candidate == none && c.assertProgress == 0 && c.clearProgress == 0
  else
    c.hit != .none &&
    (match c.candidate with
     | none => c.assertProgress == 0 && decide (c.clearProgress ≤ d.clearCount) &&
         (c.hit == .clear || decide (c.clearProgress < d.clearCount))
     | some x => c.hit != .side x && decide (c.assertProgress < d.assertCount) && c.clearProgress == 0)

/-- The quality and the last value of a context go together (R28). -/
def sampleFits (c : Context) : Bool :=
  match c.quality with
  | .good => c.lastValue.isSome
  | .none | .faulted => c.lastValue.isNone
  | .stale => false

/-- Every bound context is within what its rules reach (R28, R33 to R38, R43). -/
def ContextLaw (s : State) : Prop :=
  ValidatedLaw s ∧ (s.control.state.runtime = true → ∀ i p, (s.contexts.get i).point = some p →
    (s.desc p).used = true ∧ debounceFits (s.desc p) (s.contexts.get i) = true ∧
      sampleFits (s.contexts.get i) = true)

/-- The content of an entry is a combination that its publish mode allows (R2). -/
def contentFits (m : PublishMode) (e : MirrorEntry) : Bool :=
  (match m, e.quality with
   | .hitOnly, _ => e.value.isNone
   | .full, .good | .valueOnly, .good => e.value.isSome
   | .full, .stale | .valueOnly, .stale => true
   | .full, .none | .valueOnly, .none | .full, .faulted | .valueOnly, .faulted => e.value.isNone) &&
  (m != .valueOnly || e.hit == .none)

/-- The content of every entry in use is a combination that its publish mode allows (R2). -/
def ContentLaw (s : State) : Prop :=
  ContextLaw s ∧ (s.control.state.runtime = true →
    ∀ p, (s.mirror.get p).inUse = true → contentFits (s.desc p).publish (s.mirror.get p) = true)

/-- SELF stands at this station's own number alone, and a silence timer runs in PRESENT alone (R113, R114, R118). -/
def RosterLaw (s : State) : Prop :=
  ResetLaw s ∧ ∀ a,
    ((s.roster.entries.get a).silence ≠ .stopped ↔ (s.roster.entries.get a).state = .present) ∧
    ((s.roster.entries.get a).state = .self ↔ s.control.state.runtime = true ∧ a = s.own) ∧
    ((s.roster.entries.get a).state = .self → (s.roster.entries.get a).lastDigest = none)

/-- The fields that a custody entry of its role does not have stay clear and stopped (R74). -/
def custodyFits (c : CustodyEntry) : Bool :=
  match c.role with
  | .home => !c.yieldDue
  | .standby => !c.reclaimDue && c.reclaimWait == .stopped && c.holdoff == .stopped && !c.lapsed

/-- The custody table has one entry for each bound input, with the role that the image gives, and none in CONFIG and
VALIDATING (R74). -/
def CustodyLaw (s : State) : Prop :=
  ResetLaw s ∧ ∀ i,
    (s.control.state.runtime = true → (s.custody.table.get i).map CustodyEntry.point = (s.contexts.get i).point) ∧
    (s.control.state.runtime = false → s.custody.table.get i = none ∧ (s.contexts.get i).point = none) ∧
    ∀ c, s.custody.table.get i = some c →
      custodyFits c = true ∧ (c.role = .home ↔ (s.desc c.point).homeStation = some s.own)

/-- A payload is that of a PRESENCE frame. -/
def isPresence : Payload → Bool
  | .presence _ _ _ => true
  | .point _ => false
  | .claim _ => false
  | .yield _ => false
  | .reclaim _ => false
  | .trip _ _ => false

/-- LTXEN is asserted exactly while a frame or a jam is sent (R125); a frame, a completion to come, the jam of a collision and a
deferral are found in RUN alone; a completion to come finds the line released (R140); and before the first PRESENCE of a RUN
has completed there is no other frame (R121). -/
def FrameLaw (s : State) : Prop :=
  ResetLaw s ∧
  s.link.ltxen = (s.link.transmission != .idle) ∧
  (∀ f, s.link.transmission = .frame f → s.control.state = .run) ∧
  (∀ f, s.link.completion = some f → s.control.state = .run ∧ s.link.transmission = .idle) ∧
  (s.link.transmission = .jam → s.control.state = .run) ∧
  (∀ d, s.link.deferral = some d → s.control.state = .run) ∧
  (s.roster.firstPresence = false →
    (∀ d, s.link.deferral = some d → d.linkClass = .background) ∧
    ∀ f, s.link.transmission = .frame f ∨ s.link.completion = some f → isPresence f.payload = true)

/-- The counts stay within their widths and saturate (R17, R129, R142). -/
def CountLaw (s : State) : Prop :=
  s.link.rejected ≤ Config.rejectedLimit ∧ s.link.failures ≤ Config.isolationFailures ∧
  ∀ p, (s.mirror.get p).age ≤ Config.ageLimit

/-! ### The terms that statements about commands use -/

/-- The management port takes a transaction: RSTn is released, and the port waits for no rise of MCSn (R146, R167). -/
def Ready (s : State) : Prop := s.control.rstAsserted = false ∧ s.port.waiting = false

/-- The station sends nothing, and no completion of its own frame is to come (R132). -/
def Free (s : State) : Prop := s.link.transmission = .idle ∧ s.link.completion = none

/-- A received episode reaches the checks of R129: the receiver is on, ignores nothing, and the station is not sending
(R125, R127, R128). -/
def Hears (s : State) : Prop := s.active = true ∧ s.link.ignoring = false ∧ Free s

/-- The bytes hold a frame from another station, and no loopback is owed (R129, R130, R132). -/
def ForeignFrame (s : State) (bytes : List Byte) (f : Frame) : Prop :=
  Hears s ∧ s.link.loopback = none ∧ parseFrame bytes = some f ∧ f.sender ≠ s.own

/-- A frame from another station that is PRESENT here (R115). -/
def PartnerFrame (s : State) (bytes : List Byte) (f : Frame) : Prop :=
  ForeignFrame s bytes f ∧ (s.roster.entries.get f.sender).state = .present

/-- The bytes are the station's own frame, heard back: after its completion, or ahead of it, while the station still sends
the frame (R130, R132). -/
def OwnLoopback (s : State) (bytes : List Byte) (f : Frame) : Prop :=
  (Hears s ∧ s.link.loopback = some f ∨
    s.active = true ∧ s.link.ignoring = false ∧ s.link.transmission = .frame f) ∧
  parseFrame bytes = some f ∧ f.bytes = bytes ∧ f.sender = s.own

/-- The state after a partner's frame of another kind than PRESENCE and POINT has restarted its silence timer (R115). -/
def heard (a : Station) (s : State) : State :=
  s.setRoster a { s.roster.entries.get a with silence := .running (silenceLimit s.control.image) }

/-- A sample word of at least 24 bits that reaches the context of input `i`, bound to point `p` (R24, R26, R27). -/
def SampleFor (s : State) (bits : List Bool) (i : Input) (p : Point) : Prop :=
  s.control.rstAsserted = false ∧ s.sample.abandoned = false ∧ s.control.state.runtime = true ∧
  24 ≤ bits.length ∧ (sampleWord bits).input.val = i.val ∧ (s.contexts.get i).point = some p

/-- The value meets the condition of a side, by the table of R32. -/
def meets (d : PointDesc) (x : Side) (v : Int) : Prop :=
  match d.compare, x with
  | .above, .high => d.upper.toInt < v
  | .below, .low => v < d.lower.toInt
  | .inside, .inside => d.lower.toInt < v ∧ v < d.upper.toInt
  | .outside, .high => d.upper.toInt < v
  | .outside, .low => v < d.lower.toInt
  | .above, .low | .above, .inside | .below, .high | .below, .inside | .inside, .high | .inside, .low
  | .outside, .inside => False

/-- The value lies in the release zone of the side held, by the table of R35, each bound limited to the signed range. -/
def inZone (d : PointDesc) (x : Side) (v : Int) : Prop :=
  match x with
  | .high => max (-32768) (d.upper.toInt - d.margin) < v
  | .low => v < min 32767 (d.lower.toInt + d.margin)
  | .inside => max (-32768) (d.lower.toInt - d.margin) < v ∧ v < min 32767 (d.upper.toInt + d.margin)

/-! ### The terms of single statements -/

/-- The state in which RSTn holds the device, with the commands `q` waiting. -/
def heldInReset (q : List Instr) : State :=
  { State.reset with control := { State.reset.control with rstAsserted := true }, pending := q }

/-- The checks ahead of the point descriptors pass (R150). -/
def headerPasses (m : List Host.Cell) : Prop :=
  imageByte m 0 = 0x3C ∧ (imageByte m 1).toNat ≤ 15 ∧
  2 ≤ (imageByte m 32).toNat ∧ (imageByte m 32).toNat ≤ 250 ∧ 3 ≤ (imageByte m 33).toNat ∧ (imageByte m 33).toNat ≤ 8

/-- A group whose first evaluation trips it at once. -/
def tripsAtStart (d : GroupDesc) : Bool := d.used && (d.policy == .asHit) && d.confirm == 0

/-- The Event Queue after the first evaluation: the local time is 0, and each group that trips at once or is left without
basis raises its event, in increasing group number (R48). -/
def firstEvents (s : State) : EventQueue :=
  ((List.finRange 16).foldl
    (fun t g =>
      let d := s.groupDesc g
      if tripsAtStart d then raise (.groupTripped g .localTrip) t
      else if d.used && (d.policy == .shrink) then raise (.groupFault g) t
      else t)
    { s with events := { s.events with time := 0 } }).events

/-- The counts an evaluation gives a group: each member counted from the mirror as it stands. -/
def recount (s : State) (g : Sys2Proof.Group) : GroupRecord :=
  let vs := (s.groupDesc g).members.map
    (fun p => memberVote (s.groupDesc g).policy (s.mirror.get p).quality (s.mirror.get p).hit)
  { s.voter.groups.get g with
    hitVotes := vs.count .hit, clearVotes := vs.count .clear, excluded := vs.count .excluded }

/-- The record of a group placed, and the trip lines as the groups now give them. -/
def place (g : Sys2Proof.Group) (r : GroupRecord) (s : State) : State :=
  setLines { s with voter := { s.voter with groups := s.voter.groups.set g r } }

/-- A group whose record is `r` enters TRIPPED with cause LOCAL (R55, R59): the announcement is requested last. -/
def tripsLocally (g : Sys2Proof.Group) (r : GroupRecord) (s t : State) : Prop :=
  let r' := { r with state := .tripped, cause := some .localTrip, confirm := .stopped, stamp := s.events.time }
  let u := raise (.groupTripped g .localTrip) (place g r' s)
  let q := s.link.urgent
  ((s.groupDesc g).announce = false → t = u) ∧
  ((s.groupDesc g).announce = true → Request.tripped g ∈ q → t = u) ∧
  ((s.groupDesc g).announce = true → Request.tripped g ∉ q → q.length < 8 →
    t = { u with link := { u.link with urgent := q ++ [.tripped g] } }) ∧
  ((s.groupDesc g).announce = true → Request.tripped g ∉ q → 8 ≤ q.length →
    t = { u with voter := { u.voter with groups := u.voter.groups.set g { r' with announceOwed := true } } })

/-- The entries whose other station is `a`, re-examined in increasing input number. -/
def reexamineOthers (a : Station) (s : State) : State :=
  (List.finRange 8).foldl
    (fun t i => match t.custody.table.get i with
      | some c =>
        if (if c.role = .home then (s.desc c.point).standbyStation else (s.desc c.point).homeStation) = some a
        then reexamine i t else t
      | none => t) s

/-- A request offered to the urgent queue by an owner whose mark stays where the queue refuses it (R75, R133). -/
def offered (r : Request) (s t : State) : Prop :=
  let q := s.link.urgent
  (r ∈ q → t = s) ∧
  (r ∉ q → q.length < 8 → t = { s with link := { s.link with urgent := q ++ [r] } }) ∧
  (r ∉ q → 8 ≤ q.length → t = s)

/-- EPOCH_LIMIT for the entry of an input: raised, with the mark set, where the mark is clear. -/
def limitReport (i : Input) (c : CustodyEntry) (s : State) : State :=
  if c.limitReported then s
  else raise (.epochLimit c.point) { s with
    custody := { s.custody with table := s.custody.table.set i (some { c with limitReported := true }) } }

/-- The eight commands that bring received frame bytes. -/
def frameCommands (bytes : List Byte) : List Instr :=
  [.pointFrame bytes, .claimFrame bytes, .yieldFrame bytes, .reclaimFrame bytes, .trippedFrame bytes,
   .releaseFrame bytes, .presenceFrame bytes, .badFrame bytes]

/-- The link fields with the anchor of the frame's class at its sender (R137). -/
def anchorOf (f : Frame) (l : Link) : Link :=
  match f.payload with
  | .point _ => { l with normalAnchor := f.sender }
  | .presence _ _ _ => { l with backgroundAnchor := f.sender }
  | .claim _ | .yield _ | .reclaim _ | .trip _ _ => l

/-- The link fields after a frame that passes checks 1 to 3 at a quiet station: no loopback is owed any longer, and an
episode of the station's own jam is over (R128, R132, R137). -/
def anchored (f : Frame) (l : Link) : Link := { anchorOf f l with loopback := none, jammed := false }

/-- The state in which the content of the station's own frame, heard back, is taken: where the loopback comes ahead of the
completion, the frame has ended, LTXEN is released, and the completion is to come (R125, R132, R137, R140). -/
def heardBack (f : Frame) (s : State) : State :=
  { s with link := if s.link.transmission = .idle then anchored f s.link
      else { anchorOf f s.link with transmission := .idle, ltxen := false, completion := some f } }

/-- The state in which the records of an admitted frame from a partner are taken: the anchor set and the sender's silence
timer restarted (R115, R137). -/
def admittedState (f : Frame) (s : State) : State := heard f.sender { s with link := anchored f s.link }

/-- The entry after a content write (R14, R17, R18, R22). -/
def written (e : MirrorEntry) (limit : Nat) (q : Quality) (h : Hit) (v : Option Half) : MirrorEntry :=
  { e with
    quality := q
    hit := h
    value := v
    freshness := .running limit
    age := 0
    latch :=
      { high := e.latch.high || (e.hit != .side .high && h == .side .high)
        low := e.latch.low || (e.hit != .side .low && h == .side .low)
        inside := e.latch.inside || (e.hit != .side .inside && h == .side .inside) } }

/-- The hit that a record write places (R10). -/
def placedHit (d : PointDesc) (held carried : Hit) : Hit :=
  if d.publish = .valueOnly then .none else if carried = .none then held else carried

/-- The value that a record write places (R10). -/
def placedValue (d : PointDesc) (r : Record) : Option Half :=
  if (r.quality = .good ∨ r.quality = .stale) ∧ d.publish ≠ .hitOnly then r.value else none

/-- A record taken at a point that this station does not own: the owner and the greater epoch set, the notice that a lower one
calls for placed, the record write made, and a change of quality or hit passed to the voter (R10, R20, R69). -/
def contentTaken (s : State) (p : Point) (o : Station) (r : Record) (h : Hit) (notice : Bool) : State :=
  let x := s.mirror.get p
  let x' := written { x with owner := some o, epoch := if x.epoch < r.epoch then r.epoch else x.epoch }
    (s.desc p).freshness r.quality (placedHit (s.desc p) x.hit h) (placedValue (s.desc p) r)
  let t := if notice then placeNotice p s else s
  let u := { t with mirror := s.mirror.set p x' }
  if x'.quality = x.quality ∧ x'.hit = x.hit then u else passToVoter p u

/-- Point `p` is bound to input `i` alone, with context and custody entry `c`, and this station serves it (R74, R153). -/
def BoundAt (s : State) (p : Point) (i : Input) (c : CustodyEntry) : Prop :=
  (s.contexts.get i).point = some p ∧ (∀ j, (s.contexts.get j).point = some p → j = i) ∧
  s.custody.table.get i = some c ∧ c.point = p ∧
  (∀ j x, s.custody.table.get j = some x → x.point = p → j = i) ∧
  (s.mirror.get p).inUse = true ∧ (c.role = .home ↔ (s.desc p).homeStation = some s.own) ∧
  ((s.desc p).homeStation = some s.own ∨ (s.desc p).standbyStation = some s.own) ∧
  (s.desc p).homeStation ≠ (s.desc p).standbyStation

/-- No input of this station is bound to the point (R69, R74). -/
def Unbound (s : State) (p : Point) : Prop :=
  (∀ i, (s.contexts.get i).point ≠ some p) ∧ ∀ i c, s.custody.table.get i = some c → c.point ≠ p

/-- What a step that moves one bound point leaves as it was: every other point, context, custody entry and publication
record, the roster and the notice list, and the blocks that custody does not reach. -/
def OthersKept (s t : State) (p : Point) (i : Input) : Prop :=
  t.control = s.control ∧ t.sample = s.sample ∧
  (∀ j, j ≠ i → t.contexts.get j = s.contexts.get j) ∧ (∀ q, q ≠ p → t.mirror.get q = s.mirror.get q) ∧
  (∀ j, j ≠ i → t.custody.table.get j = s.custody.table.get j) ∧ t.custody.notices = s.custody.notices ∧
  (∀ q, q ≠ p → t.publisher.records.get q = s.publisher.records.get q) ∧
  t.publisher.list.filter (· != p) = s.publisher.list.filter (· != p) ∧
  t.events.time = s.events.time ∧ t.port = s.port ∧ t.pending = s.pending

/-- The custody entry after a promotion (R71). -/
def promoted (c : CustodyEntry) : CustodyEntry :=
  if c.role = .home then
    { c with
      claimDue := false, reclaimDue := false, reclaimWait := .stopped, holdoff := .stopped, lapsed := false }
  else { c with claimDue := false, reclaimDue := false }

/-- The custody entry after a demotion (R70, R86): the home's holdoff starts, held where the image gives 0. -/
def demoted (s : State) (c : CustodyEntry) : CustodyEntry :=
  let units := (imageByte s.control.image 34).toNat
  { c with
    yieldDue := false
    holdoff := if c.role = .home then (if units = 0 then .held else .running (units * 100)) else c.holdoff }

/-- A demotion ahead of any record write (R69, R70, R86, R99): station `a` owns the point at epoch `e`, the context of input `i`
becomes SHADOW, POINT_RELEASED is raised, the point leaves the publish list with its record reset, and the custody entry takes
its demoted form. -/
def demotedState (s : State) (p : Point) (i : Input) (c : CustodyEntry) (a : Station) (e : Epoch) : State :=
  { s with
    mirror := s.mirror.set p { s.mirror.get p with owner := some a, epoch := e }
    contexts := s.contexts.set i { s.contexts.get i with role := .shadow }
    events := (raise (.pointReleased p e a .demoted) s).events
    publisher := { s.publisher with
      list := s.publisher.list.filter (· != p)
      records := s.publisher.records.set p (State.reset.publisher.records.get p) }
    custody := { s.custody with table := s.custody.table.set i (some (demoted s c)) } }

/-- The announcement offered again after a refused release (R59, R109). Where the queue takes it, a mark that is owed already
stays (log entry 13). -/
def announcedAgain (g : Sys2Proof.Group) (s t : State) : Prop :=
  let q := s.link.urgent
  (Request.tripped g ∈ q → t = s) ∧
  (Request.tripped g ∉ q → q.length < 8 → t = { s with link := { s.link with urgent := q ++ [.tripped g] } }) ∧
  (Request.tripped g ∉ q → 8 ≤ q.length → t = { s with
    voter := { s.voter with groups := s.voter.groups.set g { s.voter.groups.get g with announceOwed := true } } })

/-- The class a station in RUN offers at an idle event: before its first PRESENCE has completed BACKGROUND alone, and from then
on the highest class with work pending (R121, R135). -/
def offers (s : State) : Option LinkClass :=
  if s.roster.firstPresence = true ∧ s.link.urgent ≠ [] then some .urgent
  else if s.roster.firstPresence = true ∧ s.publisher.list ≠ [] then some .normal
  else if s.roster.presencePending = true then some .background
  else none

/-- The station begins to send a frame with this payload. -/
def sending (p : Payload) (s : State) : State :=
  { s with link := { s.link with
      transmission := .frame { sender := s.own, payload := p }
      ltxen := true
      loopback := none
      deferral := none } }

/-- What the assembly of a CLAIM, RECLAIM or YIELD makes of one custody entry: a point that is carried, a point left out
because its test fails, a point left out at epoch 65535, and an entry without the mark. -/
structure Assembly where
  marked : CustodyEntry → Bool
  /-- The test of the rule, but for the epoch. -/
  test : State → Input → CustodyEntry → Bool
  /-- The entry of a carried point. -/
  carry : Nat → CustodyEntry → CustodyEntry
  /-- The entry with its mark cleared. -/
  clear : CustodyEntry → CustodyEntry

/-- The other station of an entry owns its point. -/
def otherOwner (s : State) (c : CustodyEntry) (o : Option Station) : Bool :=
  o.isSome && (s.mirror.get c.point).owner == o

/-- The roster state of a station is ABSENT, SILENT or MISMATCHED. -/
def gone (s : State) : Option Station → Bool
  | some a =>
    (s.roster.entries.get a).state == .absent || (s.roster.entries.get a).state == .silent ||
      (s.roster.entries.get a).state == .mismatched
  | none => false

/-- CLAIM (R81): the claim-retry timer of a carried point starts. -/
def claimAssembly : Assembly where
  marked := CustodyEntry.claimDue
  test s i c :=
    let d := s.desc c.point
    match c.role with
    | .standby => otherOwner s c d.homeStation && gone s d.homeStation && (s.contexts.get i).quality != .none
    | .home => otherOwner s c d.standbyStation && (gone s d.standbyStation || c.lapsed)
  carry interval c := { c with claimRetry := .running interval }
  clear c := { c with claimDue := false }

/-- RECLAIM (R82). -/
def reclaimAssembly : Assembly where
  marked := CustodyEntry.reclaimDue
  test s _ c :=
    let b := (s.desc c.point).standbyStation
    c.role == .home && otherOwner s c b && b.any (fun b => (s.roster.entries.get b).state == .present)
  carry _ c := c
  clear c := { c with reclaimDue := false }

/-- YIELD (R83). -/
def yieldAssembly : Assembly where
  marked := CustodyEntry.yieldDue
  test s _ c := (s.mirror.get c.point).owner == some s.own
  carry _ c := c
  clear c := { c with yieldDue := false }

/-- The entry of input `i` after the assembly `k`. -/
def Assembly.entry (k : Assembly) (s : State) (i : Input) (c : CustodyEntry) : CustodyEntry :=
  if k.marked c then
    if k.test s i c then
      if (s.mirror.get c.point).epoch = 65535#16 then { k.clear c with limitReported := true }
      else k.carry (imageByte s.control.image 32).toNat c
    else k.clear c
  else c

/-- The inputs whose points the assembly carries, in increasing point number. -/
def Assembly.carried (k : Assembly) (s : State) : List Input :=
  (List.finRange 64).filterMap (fun p => (List.finRange 8).find? (fun i => (s.custody.table.get i).any (fun c =>
    c.point == p && k.marked c && k.test s i c && (s.mirror.get p).epoch != 65535#16)))

/-- The points that an assembly newly reports with EPOCH_LIMIT, in increasing point number: marked, with the rest of the test
holding, at epoch 65535, and not reported before (R80; log entry 11). -/
def Assembly.limited (k : Assembly) (s : State) : List Point :=
  (List.finRange 64).filter (fun p => (List.finRange 8).any (fun i => (s.custody.table.get i).any (fun c =>
    c.point == p && k.marked c && k.test s i c && (s.mirror.get p).epoch == 65535#16 && !c.limitReported)))

/-- The CLAIM or YIELD record of input `i`: the point, the mirror's epoch plus 1, and the context's custody content, by the
context's quality (R41, R42). -/
def handover (s : State) (i : Input) (c : CustodyEntry) : CustodyRecord :=
  let x := s.contexts.get i
  let d := s.desc c.point
  let unsampled := x.quality == .none
  let whole := !unsampled && x.quality != .faulted
  { record :=
      { point := BitVec.ofNat 8 c.point.val, epoch := (s.mirror.get c.point).epoch + 1, quality := x.quality,
        hit := if d.publish = .valueOnly then 0 else if unsampled then 1 else hitCode x.hit
        value := if x.quality = .good ∧ d.publish ≠ .hitOnly then x.lastValue else none }
    debounce :=
      { candidate := if whole then candidateCode x.candidate else 0
        assertProgress := if whole then BitVec.ofNat 4 x.assertProgress else 0
        clearProgress := if whole then BitVec.ofNat 4 x.clearProgress else 0 } }

/-- The station's own frame is at its completion: it is being sent and agrees to its end, or it has been heard back already
(R132, R140). -/
def Completes (s : State) (f : Frame) : Prop :=
  s.link.transmission = .frame f ∨ s.link.transmission = .idle ∧ s.link.completion = some f

/-- The link after a completion: the consecutive-failure count is 0; the line is released and the loopback is to come, or, where
the loopback has been taken already, nothing is (R132, R140). -/
def completed (f : Frame) (s : State) : State :=
  { s with link := if s.link.transmission = .idle then { s.link with completion := none, failures := 0 }
      else { s.link with transmission := .idle, ltxen := false, failures := 0, loopback := some f } }

/-- The state with this response on MISO. -/
def answered (bytes : List Byte) (s : State) : State := { s with port := { s.port with miso := .response bytes } }

/-- Every step keeps the condition. -/
def Kept (law : State → Prop) : Prop := ∀ s t, law s → step s = .next t → law t

end Sys2Proof.Safety
end

