-- ==== Sys2Proof/WellFormed.lean ====
section
/-! DEFINITION. When a command's operands are ones that its event can bring: the bytes of a frame command hold
a frame of its kind, the data of a WRITE-IMAGE have a 16-bit count, and an unknown command byte names no command. -/

namespace Sys2Proof

/-- A record names a hit (R175). -/
def Record.wf (r : Record) : Bool := (hitOfCode r.hit).isSome

/-- A CLAIM or YIELD record names a hit and a candidate (R175). -/
def CustodyRecord.wf (r : CustodyRecord) : Bool := r.record.wf && (candidateOfCode r.debounce.candidate).isSome

/-- The number of entries of a payload is one its count byte may hold (R129, check 3). -/
def Payload.countsFit : Payload → Bool
  | .presence _ ps ns => decide (ps.length ≤ 8) && decide (ns.length ≤ 8)
  | .point rs => decide (1 ≤ rs.length) && decide (rs.length ≤ 8)
  | .claim rs => decide (1 ≤ rs.length) && decide (rs.length ≤ 8)
  | .yield rs => decide (1 ≤ rs.length) && decide (rs.length ≤ 8)
  | .reclaim ps => decide (1 ≤ ps.length) && decide (ps.length ≤ 8)
  | .trip _ _ => true

/-- The payload that a frame command's bytes hold, when they pass checks 1 to 3 of R129. -/
def payloadOf (bs : List Byte) : Option Payload := (parseFrame bs).map Frame.payload

/-- The operands of a command are ones its row's event can bring. -/
def Instr.wf : Instr → Bool
  | .pointFrame bs => match payloadOf bs with
    | some (.point _) => true
    | _ => false
  | .claimFrame bs => match payloadOf bs with
    | some (.claim _) => true
    | _ => false
  | .yieldFrame bs => match payloadOf bs with
    | some (.yield _) => true
    | _ => false
  | .reclaimFrame bs => match payloadOf bs with
    | some (.reclaim _) => true
    | _ => false
  | .trippedFrame bs => match payloadOf bs with
    | some (.trip _ k) => k != 2
    | _ => false
  | .releaseFrame bs => match payloadOf bs with
    | some (.trip _ k) => k != 1
    | _ => false
  | .presenceFrame bs => match payloadOf bs with
    | some (.presence _ _ _) => true
    | _ => false
  | .badFrame bs => (parseFrame bs).isNone
  | .writeImage _ data => decide (data.length < 65536)
  | .unknownCommandByte b => !namesCommand b
  | .powerUp _ _ | .rstnAsserted | .rstnReleased _ _ | .sampleArrival _ | .jam | .truncatedFrame | .idleEvent
  | .carrierSeen | .win | .completion | .collision | .jamEnd | .freshnessExpiry _ | .confirmTimerExpiry _
  | .refreshTimerExpiry _ | .claimRetryExpiry _ | .reclaimWaitExpiry _ | .holdoffExpiry _
  | .silenceTimerExpiry _ | .presenceTimerExpiry | .listenTimerExpiry | .isolationHoldExpiry
  | .validationCompletion _ | .readImage _ _ | .start | .restart _ | .readStatus | .readPoint _ | .readGroup _
  | .readRoster _ | .popEvent | .clearLatch _ | .release _ | .reclaim | .partialCommandDiscarded
  | .localTimeTick => true

end Sys2Proof
end

