-- ==== Sys2Proof/Certificates/Slice0/Obligations.lean ====
section
/-! DEFINITION. The statements for the provers, from the numbered rules of the manual. Every statement about a next state
gives the whole state after the command, so that what it does not name is unchanged. The terms they use stand in
Sys2Proof.Safety. -/

open Sys2Proof Sys2Proof.Machine Sys2Proof.Safety

/-! ### The command queue, the state after reset, and the resets -/

/-- One step takes the command at the front of the queue, with the queue's rest, and idles on an empty queue. The queue is
the model's own (log entry 19), and so is idling on an empty one (log entry 7). -/
def Obligations.StepTakesFrontCommand : Prop :=
  ∀ (c : Instr) (rest : List Instr) (s : State),
    step { s with pending := c :: rest } = exec c { s with pending := rest } ∧
    step { s with pending := [] } = .next { s with pending := [] }

/-- The device after power-up: CONFIG, every image byte 0, every trip line asserted, and every block in its CONFIG form.
The levels of SFS (low) and MCSn (high) are the model's choice (log entry 17), and so is RSTn
released (log entry 23). Every law that the invariant statements
below are about holds there. -/
def Obligations.ResetState : Prop :=
  State.reset.control =
    { rstAsserted := false, state := .config, image := [], imagePresent := false, startError := .none, digest := 0,
      listen := .stopped, isolation := .stopped } ∧
  (∀ a, Memory.read State.reset.control.image a = 0) ∧
  State.reset.sample = { abandoned := false } ∧
  (∀ i, State.reset.contexts.get i =
    { point := none, role := .idle, quality := .none, lastValue := none, hit := .none, candidate := none,
      assertProgress := 0, clearProgress := 0 }) ∧
  (∀ p, State.reset.mirror.get p =
    { inUse := false, owner := none, epoch := 0, quality := .none, hit := .none, value := none, freshness := .stopped,
      age := 0, latch := { high := false, low := false, inside := false } }) ∧
  (∀ g, State.reset.voter.groups.get g =
    { state := .clear, cause := none, hitVotes := 0, clearVotes := 0, excluded := 0, confirm := .stopped,
      announceOwed := false, stamp := 0 }) ∧
  State.reset.voter.lines = 0b1111#4 ∧
  (∀ i, State.reset.custody.table.get i = none) ∧ State.reset.custody.notices = [] ∧
  State.reset.publisher.list = [] ∧
  (∀ p, State.reset.publisher.records.get p =
    { lastPublished := none, refresh := .stopped, carried := false, carriedValue := none, changed := false }) ∧
  (∀ a, State.reset.roster.entries.get a = { state := .absent, lastDigest := none, silence := .stopped }) ∧
  State.reset.roster.presenceTimer = .stopped ∧ State.reset.roster.presencePending = false ∧
  State.reset.roster.firstPresence = false ∧
  State.reset.link =
    { urgent := [], normalAnchor := 15, backgroundAnchor := 15, rejected := 0, failures := 0, deferral := none,
      transmission := .idle, ltxen := false, loopback := none, completion := none, ignoring := false,
      jammed := false } ∧
  State.reset.events = { records := [], overflow := false, time := 0, attn := false } ∧
  State.reset.port = { waiting := false, miso := .highImpedance } ∧
  ResetLaw State.reset ∧ ValidatedLaw State.reset ∧ ImageLaw State.reset ∧ UrgentLaw State.reset ∧ EventLaw State.reset
  ∧ TimeLaw State.reset ∧ NoticeLaw State.reset ∧ PublishLaw State.reset ∧ LineLaw State.reset ∧ RoleLaw State.reset ∧
  GroupLaw State.reset ∧ VoteLaw State.reset ∧ StandingLaw State.reset ∧ OwnerLaw State.reset ∧ ContextLaw State.reset ∧
  ContentLaw State.reset ∧ RosterLaw State.reset ∧ CustodyLaw State.reset ∧ FrameLaw State.reset ∧ CountLaw State.reset

/-- Power-up and RSTn put every block in its power-up form whatever was in progress, RSTn holds it there against every
command but the resets, with MISO at high impedance, and its release changes nothing else. SFS high at a reset makes the
Sample Interface ignore the frame under way (R27), and MCSn low at the release makes the port wait (R167). That a release
of an RSTn that is not asserted changes nothing is the model's reading (log entry 2), and that RSTn is released as power-up ends,
also where it was asserted before, is its choice (log entry 23). -/
def Obligations.HardwareResets : Prop :=
  (∀ (s : State) (sfsHigh mcsnLow : Bool),
    exec (.powerUp sfsHigh mcsnLow) s = .next { State.reset with
      sample := { abandoned := sfsHigh }, port := { waiting := mcsnLow, miso := .highImpedance }, pending := s.pending }) ∧
  (∀ s : State, exec .rstnAsserted s = .next (heldInReset s.pending)) ∧
  (∀ q, (heldInReset q).port = { waiting := false, miso := .highImpedance }) ∧
  (∀ (q : List Instr) (c : Instr), (∀ a b, c ≠ .powerUp a b) → (∀ a b, c ≠ .rstnReleased a b) →
    exec c (heldInReset q) = .next (heldInReset q)) ∧
  (∀ (s : State) (sfsHigh mcsnLow : Bool), s.control.rstAsserted = true →
    exec (.rstnReleased sfsHigh mcsnLow) s = .next { s with
      control := { s.control with rstAsserted := false }
      sample := { abandoned := sfsHigh }
      port := { waiting := mcsnLow, miso := .highImpedance } }) ∧
  ∀ (s : State) (sfsHigh mcsnLow : Bool), s.control.rstAsserted = false →
    exec (.rstnReleased sfsHigh mcsnLow) s = .next s

/-- RESTART: CONFIG from any station state, the image and the image-present flag kept, ABORTED where it cut a validation,
every other block in the form that power-up gives it; a frame on the link is cut by the jam, and a jam runs to its end; a
frame that has been heard back ahead of its completion has ended, and nothing is cut. -/
def Obligations.RestartKeepsTheImage : Prop :=
  ∀ (s : State) (sfsHigh : Bool), Ready s →
    exec (.restart sfsHigh) s = .next { State.reset with
      control := { State.reset.control with
        image := s.control.image
        imagePresent := s.control.imagePresent
        startError := if s.control.state = .validating then .aborted else .none }
      sample := { abandoned := sfsHigh }
      link := if s.link.transmission = .idle then State.reset.link
        else { State.reset.link with transmission := .resetJam, ltxen := true }
      port := { s.port with miso := .response [0x00] }
      pending := s.pending }

/-! ### The life cycle -/

/-- START, by the table of R148. -/
def Obligations.StartAnswers : Prop :=
  ∀ s : State, Ready s →
    (s.control.state = .config → s.control.imagePresent = true →
      exec .start s = .next { s with
        control := { s.control with state := .validating, startError := .none }
        port := { s.port with miso := .response [0x00] } }) ∧
    (s.control.state = .config → s.control.imagePresent = false →
      exec .start s = .next { s with
        control := { s.control with startError := .noImage }
        port := { s.port with miso := .response [0x04, 0x01] } }) ∧
    (s.control.state = .validating → exec .start s = .next { s with port := { s.port with miso := .response [0x01] } }) ∧
    (s.control.state.runtime = true → exec .start s = .next { s with port := { s.port with miso := .response [0x02] } })

/-- A failed validation: the first failing check gives the code, with the lowest failing number as its subject, and the
station returns to CONFIG with nothing else changed. -/
def Obligations.ValidationStopsAtFirstFailure : Prop :=
  ∀ (s : State) (carrier : Bool), s.control.rstAsserted = false → s.control.state = .validating →
    let m := s.control.image
    let failed (e : StartError) : Host.Outcome State Fault Refusal :=
      .next { s with control := { s.control with state := .config, startError := e } }
    let points := headerPasses m ∧ ∀ q, pointFails m q = false
    let groups := points ∧ ∀ h, groupFails m h = false
    let inputs := groups ∧ ∀ j, inputFails m j = false
    (imageByte m 0 ≠ 0x3C → exec (.validationCompletion carrier) s = failed .badFormat) ∧
    (imageByte m 0 = 0x3C → 15 < (imageByte m 1).toNat → exec (.validationCompletion carrier) s = failed .badStation) ∧
    (imageByte m 0 = 0x3C → (imageByte m 1).toNat ≤ 15 → ¬ headerPasses m →
      exec (.validationCompletion carrier) s = failed .badLink) ∧
    (∀ p, headerPasses m → pointFails m p = true → (∀ q, q < p → pointFails m q = false) →
      exec (.validationCompletion carrier) s = failed (.badPoint p)) ∧
    (∀ g, points → groupFails m g = true → (∀ h, h < g → groupFails m h = false) →
      exec (.validationCompletion carrier) s = failed (.badGroup g)) ∧
    (∀ i, groups → inputFails m i = true → (∀ j, j < i → inputFails m j = false) →
      exec (.validationCompletion carrier) s = failed (.badInput i)) ∧
    (∀ p, inputs → pointUnbound m p = true → (∀ q, q < p → pointUnbound m q = false) →
      exec (.validationCompletion carrier) s = failed (.badInputPoint p))

/-- What makes a point or a group descriptor, an input of the input map or an unbound point fail (R151 to R153), and where the
image holds each field that the blocks read (R177): the point and group descriptors, the input map, the trip-line masks, and
the codes of compare modes, publish modes and stale policies. -/
def Obligations.DescriptorChecks : Prop :=
  ((∀ (m : List Host.Cell) (p : Point),
    let d := pointDesc m p
    pointFails m p = true ↔ d.home ≠ 0xFF ∧ ¬ (
      d.home.toNat ≤ 15 ∧ (d.standby = 0xFF ∨ d.standby.toNat ≤ 15 ∧ d.standby ≠ d.home) ∧
      (d.publishCode = 0 ∨ d.publishCode = 1 ∨ d.publishCode = 2) ∧
      (d.compare = .inside ∨ d.compare = .outside → d.lower.toInt < d.upper.toInt) ∧
      1 ≤ d.assertCount ∧ d.assertCount ≤ 15 ∧ 1 ≤ d.clearCount ∧ d.clearCount ≤ 15 ∧ d.margin ≤ 4095 ∧
      2 ≤ d.freshness ∧ d.freshness ≤ 4095 ∧ d.deadband ≤ 32767)) ∧
  (∀ (m : List Host.Cell) (g : Sys2Proof.Group),
    let d := groupDesc m g
    groupFails m g = true ↔ d.memberCount ≠ 0 ∧ ¬ (
      d.memberCount ≤ 8 ∧
      (∀ b ∈ d.entries.take d.memberCount, ∃ p, pointOfByte b = some p ∧ (pointDesc m p).home ≠ 0xFF ∧
        (pointDesc m p).publish ≠ .valueOnly) ∧
      (d.entries.take d.memberCount).Nodup ∧
      1 ≤ d.k ∧ d.k ≤ d.memberCount ∧ (d.policyCode = 0 ∨ d.policyCode = 1 ∨ d.policyCode = 2) ∧ d.confirm ≤ 4095)) ∧
  (∀ (m : List Host.Cell) (i : Input),
    inputFails m i = true ↔ imageByte m (2 + i.val) ≠ 0xFF ∧ ¬ ∃ p, pointOfByte (imageByte m (2 + i.val)) = some p ∧
      (pointDesc m p).home ≠ 0xFF ∧
      ((pointDesc m p).homeStation = some (ownStation m) ∨ (pointDesc m p).standbyStation = some (ownStation m)) ∧
      ∀ j, j < i → imageByte m (2 + j.val) ≠ imageByte m (2 + i.val)) ∧
  ∀ (m : List Host.Cell) (p : Point),
    pointUnbound m p = true ↔ (pointDesc m p).home ≠ 0xFF ∧
      ((pointDesc m p).homeStation = some (ownStation m) ∨ (pointDesc m p).standbyStation = some (ownStation m)) ∧
      ∀ i : Input, pointOfByte (imageByte m (2 + i.val)) ≠ some p) ∧
  ∀ m : List Host.Cell,
    let at' (a : Nat) : Nat := (Memory.read m a).toNat
    let pair (a : Nat) : Nat := 256 * at' a + at' (a + 1)
    (∀ p : Point,
      let d := pointDesc m p
      let a := 64 + 16 * p.val
      d.home.toNat = at' a ∧ d.standby.toNat = at' (a + 1) ∧
      d.compare = (if at' (a + 2) % 4 = 0 then .above else if at' (a + 2) % 4 = 1 then .below
        else if at' (a + 2) % 4 = 2 then .inside else .outside) ∧
      d.publishCode.toNat = at' (a + 2) / 16 % 4 ∧
      d.assertCount = at' (a + 3) / 16 ∧ d.clearCount = at' (a + 3) % 16 ∧
      d.lower.toNat = pair (a + 4) ∧ d.upper.toNat = pair (a + 6) ∧ d.margin = pair (a + 8) ∧
      d.freshness = pair (a + 10) ∧ d.deadband = pair (a + 12) ∧
      (d.publishCode = 0 → d.publish = .full) ∧ (d.publishCode = 1 → d.publish = .hitOnly) ∧
      (d.publishCode = 2 → d.publish = .valueOnly) ∧
      (∀ h : Station, d.homeStation = some h ↔ at' a = h.val) ∧
      ∀ b : Station, d.standbyStation = some b ↔ at' (a + 1) = b.val) ∧
    (∀ g : Sys2Proof.Group,
      let d := groupDesc m g
      let a := 1088 + 16 * g.val
      d.memberCount = at' a ∧ d.k = at' (a + 1) ∧ d.policyCode.toNat = at' (a + 2) ∧
      d.announce = (at' (a + 3)).testBit 0 ∧ d.follow = (at' (a + 3)).testBit 1 ∧
      d.faultAsserts = (at' (a + 3)).testBit 2 ∧ d.confirm = pair (a + 4) ∧
      d.entries = (List.range 8).map (fun n => Memory.read m (a + 6 + n)) ∧
      d.members = (d.entries.take d.memberCount).filterMap pointOfByte ∧
      (d.policyCode = 0 → d.policy = .asHit) ∧ (d.policyCode = 1 → d.policy = .asClear) ∧
      (d.policyCode = 2 → d.policy = .shrink) ∧
      ∀ n : Fin 4, (lineMask m g).getLsbD n.val = (at' (10 + g.val / 2)).testBit (4 * (g.val % 2) + n.val)) ∧
    (∀ (i : Input) (p : Point), inputMap m i = some p ↔ at' (2 + i.val) = p.val) ∧
    (at' 1 ≤ 15 → (ownStation m).val = at' 1) ∧
    ∀ k : Fin 16, (imageHalf m 18).getLsbD k.val = (pair 18).testBit k.val

/-- A passed validation: the station enters LISTEN with the digest of image bytes 32 to 1343, and every block but the Group
Voter takes its initial form; the first evaluation raises its events with time 0, in increasing group number. Its groups are
those of `FirstEvaluationFollowsPolicy`. -/
def Obligations.RuntimeInitialization : Prop :=
  ∀ (s : State) (carrier : Bool), s.control.rstAsserted = false → s.control.state = .validating →
    validate s.control.image = .none →
    ∃ t, exec (.validationCompletion carrier) s = .next t ∧
      t.control = { s.control with
        state := .listen
        digest := crc32 (Memory.readAll s.control.image 32 1312)
        listen := .running ((imageByte s.control.image 32).toNat * (imageByte s.control.image 33).toNat)
        isolation := .stopped } ∧
      (∀ p, t.mirror.get p =
        { inUse := (s.desc p).used, owner := (s.desc p).homeStation, epoch := 0, quality := .none, hit := .none,
          value := none, freshness := .stopped, age := 0, latch := { high := false, low := false, inside := false } }) ∧
      (∀ i, inputMap s.control.image i = none →
        t.contexts.get i =
          { point := none, role := .idle, quality := .none, lastValue := none, hit := .none, candidate := none,
            assertProgress := 0, clearProgress := 0 } ∧
        t.custody.table.get i = none) ∧
      (∀ i p, inputMap s.control.image i = some p →
        t.contexts.get i =
          { point := some p, role := if (s.desc p).homeStation = some s.own then .acting else .shadow, quality := .none,
            lastValue := none, hit := if (s.desc p).publish = .valueOnly then .none else .clear, candidate := none,
            assertProgress := 0, clearProgress := 0 } ∧
        t.custody.table.get i = some
          { point := p, role := if (s.desc p).homeStation = some s.own then .home else .standby, claimDue := false,
            reclaimDue := false, yieldDue := false, claimRetry := .stopped, reclaimWait := .stopped,
            holdoff := .stopped, lapsed := false, limitReported := false }) ∧
      t.custody.notices = [] ∧
      t.publisher = State.reset.publisher ∧
      (∀ a, t.roster.entries.get a =
        { state := if a = s.own then .self else .absent, lastDigest := none, silence := .stopped }) ∧
      t.roster.presenceTimer = .stopped ∧ t.roster.presencePending = false ∧ t.roster.firstPresence = false ∧
      t.link.normalAnchor = 15 ∧ t.link.backgroundAnchor = 15 ∧ t.link.failures = 0 ∧ t.link.deferral = none ∧
      t.link.rejected = s.link.rejected ∧ t.link.ignoring = carrier ∧ t.link.loopback = none ∧
      t.link.completion = none ∧ t.link.jammed = false ∧
      t.link.transmission = s.link.transmission ∧ t.link.ltxen = s.link.ltxen ∧
      t.events = firstEvents s ∧ t.port = s.port ∧ t.sample = s.sample ∧
      t.pending = s.pending

/-- The first evaluation on entry to LISTEN: by the stale policy alone, a used group is TRIPPED or ARMING (AS_HIT), CLEAR
(AS_CLEAR) or in FAULT (SHRINK), an unused group keeps its CONFIG form, and the announcements of the trips go to the
emptied urgent queue in increasing group number, the first eight as requests and the rest as owed marks. The events are
GROUP_TRIPPED with cause LOCAL for each group that trips at once and GROUP_FAULT for each group in FAULT, with time 0 and in
increasing group number; no other group raises one. -/
def Obligations.FirstEvaluationFollowsPolicy : Prop :=
  ∀ (s : State) (carrier : Bool), s.control.rstAsserted = false → s.control.state = .validating →
    validate s.control.image = .none →
    ∃ t, exec (.validationCompletion carrier) s = .next t ∧
      (∀ g,
        let d := s.groupDesc g
        let r := t.voter.groups.get g
        r.stamp = 0 ∧
        (d.used = false → r = State.reset.voter.groups.get g) ∧
        (d.used = true → d.policy = .asHit → r.hitVotes = d.memberCount ∧ r.clearVotes = 0 ∧ r.excluded = 0) ∧
        (d.used = true → d.policy = .asHit → d.confirm = 0 →
          r.state = .tripped ∧ r.cause = some .localTrip ∧ r.confirm = .stopped) ∧
        (d.used = true → d.policy = .asHit → d.confirm ≠ 0 →
          r.state = .arming ∧ r.cause = none ∧ r.confirm = .running d.confirm) ∧
        (d.used = true → d.policy = .asClear →
          r = { State.reset.voter.groups.get g with clearVotes := d.memberCount }) ∧
        (d.used = true → d.policy = .shrink →
          r = { State.reset.voter.groups.get g with state := .fault, excluded := d.memberCount }) ∧
        (r.announceOwed = true ↔
          tripsAtStart d = true ∧ d.announce = true ∧ Request.tripped g ∉ t.link.urgent)) ∧
      t.link.urgent = (((List.finRange 16).filter
        (fun g => tripsAtStart (s.groupDesc g) && (s.groupDesc g).announce)).map Request.tripped).take 8 ∧
      t.voter.lines = (List.finRange 16).foldl
        (fun l g => if (t.voter.groups.get g).state = .tripped ∨
            (t.voter.groups.get g).state = .fault ∧ (s.groupDesc g).faultAsserts = true
          then l ||| lineMask s.control.image g else l) 0 ∧
      t.events = firstEvents s

/-- The listen timer expires: RUN_ENTERED, then the presence timer starts with presence pending set and the first-presence
mark clear, every holdoff timer stops, and every custody entry is re-examined, in increasing input number (log entry 10: the
model's order). -/
def Obligations.ListenExpiryEntersRun : Prop :=
  ∀ s : State, s.control.rstAsserted = false → s.control.state = .listen → s.control.listen = .running 0 →
    ∃ u, u.control = { s.control with state := .run, listen := .stopped } ∧
      u.roster = { s.roster with
        presenceTimer := .running (imageByte s.control.image 32).toNat
        presencePending := true
        firstPresence := false } ∧
      (∀ i, s.custody.table.get i = none → u.custody.table.get i = none) ∧
      (∀ i c, s.custody.table.get i = some c →
        u.custody.table.get i = some (if c.role = .home then { c with holdoff := .stopped } else c)) ∧
      u.custody.notices = s.custody.notices ∧
      u.events = (raise .runEntered s).events ∧
      u.sample = s.sample ∧ u.contexts = s.contexts ∧ u.mirror = s.mirror ∧ u.voter = s.voter ∧
      u.publisher = s.publisher ∧ u.link = s.link ∧ u.port = s.port ∧ u.pending = s.pending ∧
      exec .listenTimerExpiry s = .next ((List.finRange 8).foldl (fun t i => reexamine i t) u)

/-- One millisecond: in LISTEN, RUN and ISOLATED the local time counts up and wraps, every age counts up to 65535, every
running timer of every block has one millisecond less to run, and a held holdoff counts no time; in CONFIG, VALIDATING and
reset nothing counts. -/
def Obligations.TickAdvancesEveryTimer : Prop :=
  ∀ s : State,
    (s.active = false → exec .localTimeTick s = .next s) ∧
    (s.active = true → ∃ t, exec .localTimeTick s = .next t ∧
      t.events = { s.events with time := s.events.time + 1 } ∧
      t.control = { s.control with listen := s.control.listen.tick, isolation := s.control.isolation.tick } ∧
      (∀ p, t.mirror.get p = { s.mirror.get p with
        age := min ((s.mirror.get p).age + 1) 65535, freshness := (s.mirror.get p).freshness.tick }) ∧
      (∀ g, t.voter.groups.get g = { s.voter.groups.get g with confirm := (s.voter.groups.get g).confirm.tick }) ∧
      t.voter.lines = s.voter.lines ∧
      (∀ i, t.custody.table.get i = (s.custody.table.get i).map (fun c => { c with
        claimRetry := c.claimRetry.tick, reclaimWait := c.reclaimWait.tick, holdoff := c.holdoff.tick })) ∧
      t.custody.notices = s.custody.notices ∧
      (∀ p, t.publisher.records.get p = { s.publisher.records.get p with
        refresh := (s.publisher.records.get p).refresh.tick }) ∧
      t.publisher.list = s.publisher.list ∧
      (∀ a, t.roster.entries.get a = { s.roster.entries.get a with silence := (s.roster.entries.get a).silence.tick }) ∧
      t.roster.presenceTimer = s.roster.presenceTimer.tick ∧
      t.roster.presencePending = s.roster.presencePending ∧ t.roster.firstPresence = s.roster.firstPresence ∧
      t.sample = s.sample ∧ t.contexts = s.contexts ∧ t.link = s.link ∧ t.port = s.port ∧ t.pending = s.pending) ∧
    ∀ n : Nat, Timer.stopped.tick = .stopped ∧ (Timer.running (n + 1)).tick = .running n ∧
      Holdoff.stopped.tick = .stopped ∧ (Holdoff.running (n + 1)).tick = .running n ∧ Holdoff.held.tick = .held

/-! ### Samples and the evaluator -/

/-- The bits of a sample word: four of the input number, the fault flag, three reserved bits, sixteen of the value, and
nothing after the twenty-fourth counts. Frames of the sample port that reach no context: in CONFIG and VALIDATING, in
reset and after a reset nothing happens; an empty frame is ignored; a short frame, an illegal input number and an
unmapped input raise SAMPLE_REJECTED alone. -/
def Obligations.SamplesChecked : Prop :=
  (∀ (n3 n2 n1 n0 fault r2 r1 r0 : Bool) (value rest : List Bool), value.length = 16 →
    let w := sampleWord (n3 :: n2 :: n1 :: n0 :: fault :: r2 :: r1 :: r0 :: (value ++ rest))
    w.input.val = 8 * n3.toNat + 4 * n2.toNat + 2 * n1.toNat + n0.toNat ∧ w.fault = fault ∧
    ∀ k : Fin 16, w.value.getLsbD (15 - k.val) = value.getD k.val false) ∧
  (∀ s : State,
    (∀ bits, s.control.rstAsserted = true → exec (.sampleArrival bits) s = .next s) ∧
    (∀ bits, s.control.rstAsserted = false → s.sample.abandoned = true →
      exec (.sampleArrival bits) s = .next { s with sample := { abandoned := false } }) ∧
    (s.control.rstAsserted = false → s.sample.abandoned = false →
      (∀ bits, s.control.state.runtime = false → exec (.sampleArrival bits) s = .next s) ∧
      (s.control.state.runtime = true →
        exec (.sampleArrival []) s = .next s ∧
        (∀ bits : List Bool, bits ≠ [] → bits.length < 4 →
          exec (.sampleArrival bits) s = .next (raise (.sampleRejected none .short) s)) ∧
        (∀ (n3 n2 n1 n0 : Bool) (rest : List Bool) (n : Fin 16), rest.length < 20 →
          n.val = 8 * n3.toNat + 4 * n2.toNat + 2 * n1.toNat + n0.toNat →
          exec (.sampleArrival (n3 :: n2 :: n1 :: n0 :: rest)) s = .next (raise (.sampleRejected (some n) .short) s)) ∧
        (∀ bits : List Bool, 24 ≤ bits.length → 8 ≤ (sampleWord bits).input.val →
          exec (.sampleArrival bits) s = .next (raise (.sampleRejected (some (sampleWord bits).input) .illegalInput) s)) ∧
        (∀ (bits : List Bool) (i : Input), 24 ≤ bits.length → (sampleWord bits).input.val = i.val →
          (s.contexts.get i).point = none →
          exec (.sampleArrival bits) s = .next (raise (.sampleRejected (some (sampleWord bits).input) .unmapped) s)))))

/-- A sample at a SHADOW context evaluates that context and goes no further, but for the re-examination that the first
sample brings. A sample at an ACTING context makes the sample write: the entry takes the context's quality, hit and
value together, its freshness timer starts, its age is 0, and a new side joins the latch; then the voter hears of a
change of quality or hit, and the Publisher of every write to a point this station owns. -/
def Obligations.SampleTaken : Prop :=
  (∀ (s : State) (bits : List Bool) (i : Input) (p : Point), SampleFor s bits i p → (s.contexts.get i).role = .shadow →
    let s1 := { s with contexts := s.contexts.set i (evaluateSample (s.desc p) (sampleWord bits) (s.contexts.get i)) }
    ((s.contexts.get i).quality ≠ .none → exec (.sampleArrival bits) s = .next s1) ∧
    ((s.contexts.get i).quality = .none → exec (.sampleArrival bits) s = .next (reexamine i s1))) ∧
  (∀ (s : State) (bits : List Bool) (i : Input) (p : Point), SampleFor s bits i p → (s.contexts.get i).role = .acting →
    let c := evaluateSample (s.desc p) (sampleWord bits) (s.contexts.get i)
    let e := s.mirror.get p
    let side (x : Side) : Bool := e.hit != .side x && c.hit == .side x
    let s1 := { s with
      contexts := s.contexts.set i c
      mirror := s.mirror.set p { e with
        quality := c.quality
        hit := c.hit
        value := if c.quality = .good ∧ (s.desc p).publish ≠ .hitOnly then c.lastValue else none
        freshness := .running (s.desc p).freshness
        age := 0
        latch :=
          { high := e.latch.high || side .high, low := e.latch.low || side .low,
            inside := e.latch.inside || side .inside } } }
    let s2 := if c.quality = e.quality ∧ c.hit = e.hit then s1 else passToVoter p s1
    let s3 := if e.owner = some s.own then passToPublisher p e.quality e.hit s2 else s2
    ((s.contexts.get i).quality ≠ .none → exec (.sampleArrival bits) s = .next s3) ∧
    ((s.contexts.get i).quality = .none → exec (.sampleArrival bits) s = .next (reexamine i s3)))

/-- One sample at a context: a fault flag (R33), a VALUE_ONLY point (R34), a sample on no side that is held or counts
towards clearing (R36), one that confirms the hit (R37), and one that counts towards another side (R38). The sides are those
of R32 (`meets`) and the release zone is that of R35 (`inZone`). -/
def Obligations.DebounceStep : Prop :=
  ∀ (d : PointDesc) (w : SampleWord) (c : Context),
    let v := w.value.toInt
    let good := { c with quality := .good, lastValue := some w.value }
    (w.fault = true → evaluateSample d w c =
      { c with quality := .faulted, lastValue := none, candidate := none, assertProgress := 0, clearProgress := 0 }) ∧
    (w.fault = false → d.publish = .valueOnly → evaluateSample d w c =
      { good with hit := .none, candidate := none, assertProgress := 0, clearProgress := 0 }) ∧
    (w.fault = false → d.publish ≠ .valueOnly → (d.compare = .outside → d.lower.toInt < d.upper.toInt) →
      (∀ x, (∀ y, ¬ meets d y v) → c.hit = .side x → inZone d x v → evaluateSample d w c = good) ∧
      (∀ n, (∀ y, ¬ meets d y v) → (∀ x, c.hit = .side x → ¬ inZone d x v) → n = min (c.clearProgress + 1) d.clearCount →
        (n = d.clearCount → c.hit ≠ .clear → evaluateSample d w c =
          { good with hit := .clear, candidate := none, assertProgress := 0, clearProgress := 0 }) ∧
        (n ≠ d.clearCount ∨ c.hit = .clear → evaluateSample d w c =
          { good with candidate := none, assertProgress := 0, clearProgress := n })) ∧
      (∀ x, meets d x v → c.hit = .side x → evaluateSample d w c =
        { good with candidate := none, assertProgress := 0, clearProgress := 0 }) ∧
      ∀ x n, meets d x v → c.hit ≠ .side x → n = (if c.candidate = some x then c.assertProgress + 1 else 1) →
        (d.assertCount ≤ n → evaluateSample d w c =
          { good with hit := .side x, candidate := none, assertProgress := 0, clearProgress := 0 }) ∧
        (n < d.assertCount → evaluateSample d w c =
          { good with candidate := some x, assertProgress := n, clearProgress := 0 }))

/-! ### The mirror and the Publisher -/

/-- A freshness timer expires: a GOOD or FAULTED entry becomes STALE with its hit and value kept, POINT_STALE is raised, and
the change is passed to the voter and, for a point this station owns, to the Publisher; an entry of another quality keeps its
fields; in every case the timer stops. -/
def Obligations.FreshnessExpiryMakesStale : Prop :=
  ∀ (s : State) (p : Point), s.active = true → (s.mirror.get p).freshness = .running 0 →
    let e := s.mirror.get p
    (e.quality = .none ∨ e.quality = .stale →
      exec (.freshnessExpiry p) s = .next { s with mirror := s.mirror.set p { e with freshness := .stopped } }) ∧
    (e.quality = .good ∨ e.quality = .faulted →
      let s1 := passToVoter p (raise (.pointStale p)
        { s with mirror := s.mirror.set p { e with quality := .stale, freshness := .stopped } })
      (e.owner ≠ some s.own → exec (.freshnessExpiry p) s = .next s1) ∧
      (e.owner = some s.own → exec (.freshnessExpiry p) s = .next (makeDue p s1)))

/-- CLEAR-LATCH leaves in the latch the side of the present hit alone, and changes nothing else but the answer. -/
def Obligations.ClearLatch : Prop :=
  ∀ (s : State) (b : Byte), Ready s →
    (s.control.state.runtime = false → exec (.clearLatch b) s = .next { s with port := { s.port with miso := .response [0x02] } }) ∧
    (s.control.state.runtime = true →
      (64 ≤ b.toNat → exec (.clearLatch b) s = .next { s with port := { s.port with miso := .response [0x03] } }) ∧
      ∀ p : Point, b.toNat = p.val →
        ((s.mirror.get p).inUse = false →
          exec (.clearLatch b) s = .next { s with port := { s.port with miso := .response [0x03] } }) ∧
        ((s.mirror.get p).inUse = true → exec (.clearLatch b) s = .next { s with
          mirror := s.mirror.set p { s.mirror.get p with
            latch :=
              { high := (s.mirror.get p).hit == .side .high, low := (s.mirror.get p).hit == .side .low,
                inside := (s.mirror.get p).hit == .side .inside } }
          port := { s.port with miso := .response [0x00] } }))

/-- A change passed to the Publisher makes the point due on a change of hit (not at a VALUE_ONLY point), on a change of
quality, or when a GOOD value lies beyond the deadband of the reference value (not at a HIT_ONLY point); a due point joins
the tail, keeps its place, or, while it is carried, has its changed mark set. -/
def Obligations.DuePoints : Prop :=
  (∀ (p : Point) (q : Quality) (h : Hit) (s : State),
    let d := s.desc p
    let e := s.mirror.get p
    let r := s.publisher.records.get p
    let due := (e.hit ≠ h ∧ d.publish ≠ .valueOnly) ∨ e.quality ≠ q ∨
      (d.publish ≠ .hitOnly ∧ e.quality = .good ∧ ∃ v, e.value = some v ∧
        ∀ w, (if r.carried then r.carriedValue else r.lastPublished) = some w →
          d.deadband < (v.toInt - w.toInt).natAbs)
    (due → passToPublisher p q h s = makeDue p s) ∧ (¬ due → passToPublisher p q h s = s)) ∧
  ∀ (p : Point) (s : State),
    let r := s.publisher.records.get p
    (p ∉ s.publisher.list →
      makeDue p s = { s with publisher := { s.publisher with list := s.publisher.list ++ [p] } }) ∧
    (p ∈ s.publisher.list → r.carried = false → makeDue p s = s) ∧
    (p ∈ s.publisher.list → r.carried = true → makeDue p s =
      { s with publisher := { s.publisher with records := s.publisher.records.set p { r with changed := true } } })

/-! ### Votes, groups and trip lines -/

/-- The vote of a member by its quality and hit, and what the counts of a record say (R49, R50). A point passed to the
voter has each used group that it is a member of evaluated once, in increasing group number, and an unused group is
never evaluated. -/
def Obligations.VotesCounted : Prop :=
  ((∀ x policy, memberVote policy .good (.side x) = .hit) ∧
  (∀ policy, memberVote policy .good .clear = .clear) ∧
  (∀ q h, q ≠ .good ∨ h = .none →
    memberVote .asHit q h = .hit ∧ memberVote .asClear q h = .clear ∧ memberVote .shrink q h = .excluded) ∧
  ∀ (d : GroupDesc) (r : GroupRecord),
    let n := d.memberCount - r.excluded
    (satisfied d r = true ↔ 0 < n ∧ min d.k n ≤ r.hitVotes) ∧ (noBasis d r = true ↔ n = 0) ∧
    ¬ (satisfied d r = true ∧ noBasis d r = true)) ∧
  ((∀ (p : Point) (s : State), passToVoter p s =
    ((List.finRange 16).filter
      (fun g => (s.groupDesc g).used && (s.groupDesc g).members.contains p)).foldl (fun t g => evaluate g t) s) ∧
  ∀ (g : Sys2Proof.Group) (s : State), (s.groupDesc g).used = false → evaluate g s = s)

/-- An evaluation of a used group in CLEAR, ARMING and TRIPPED: its counts, and the state that they call for. An
evaluation of a used group in FAULT: without basis it stays; with a basis GROUP_FAULT_ENDED is raised, and it lands in
CLEAR, ARMING or TRIPPED with the present local time as its stamp. -/
def Obligations.GroupMoves : Prop :=
  (∀ (g : Sys2Proof.Group) (s : State), (s.groupDesc g).used = true →
    let d := s.groupDesc g
    let r := recount s g
    (r.state = .clear →
      (satisfied d r = true → d.confirm = 0 → tripsLocally g r s (evaluate g s)) ∧
      (satisfied d r = true → d.confirm ≠ 0 → evaluate g s =
        place g { r with
          state := .arming, cause := none, confirm := .running d.confirm, stamp := s.events.time } s) ∧
      (noBasis d r = true → evaluate g s = raise (.groupFault g)
        (place g { r with
          state := .fault, cause := none, confirm := .stopped, announceOwed := false, stamp := s.events.time } s)) ∧
      (satisfied d r = false → noBasis d r = false → evaluate g s =
        { s with voter := { s.voter with groups := s.voter.groups.set g r } })) ∧
    (r.state = .arming →
      (satisfied d r = true → evaluate g s = { s with voter := { s.voter with groups := s.voter.groups.set g r } }) ∧
      (noBasis d r = true → evaluate g s = raise (.groupFault g)
        (place g { r with
          state := .fault, cause := none, confirm := .stopped, announceOwed := false, stamp := s.events.time } s)) ∧
      (satisfied d r = false → noBasis d r = false → evaluate g s =
        place g { r with
          state := .clear, cause := none, confirm := .stopped, announceOwed := false, stamp := s.events.time } s)) ∧
    (r.state = .tripped → evaluate g s = { s with voter := { s.voter with groups := s.voter.groups.set g r } })) ∧
  (∀ (g : Sys2Proof.Group) (s : State), (s.groupDesc g).used = true → (s.voter.groups.get g).state = .fault →
    let d := s.groupDesc g
    let r := recount s g
    let r0 := { r with state := .clear, cause := none, confirm := .stopped, announceOwed := false, stamp := s.events.time }
    let s0 := raise (.groupFaultEnded g) (place g r0 s)
    (noBasis d r = true → evaluate g s = { s with voter := { s.voter with groups := s.voter.groups.set g r } }) ∧
    (satisfied d r = true → d.confirm = 0 → tripsLocally g r0 s0 (evaluate g s)) ∧
    (satisfied d r = true → d.confirm ≠ 0 → evaluate g s =
      place g { r0 with state := .arming, confirm := .running d.confirm } s0) ∧
    (satisfied d r = false → noBasis d r = false → evaluate g s = s0))

/-- A confirm timer expires in ARMING: the group trips with cause LOCAL by the votes its record holds, and is not counted
again. -/
def Obligations.ConfirmExpiryTrips : Prop :=
  ∀ (s : State) (g : Sys2Proof.Group), s.active = true → (s.voter.groups.get g).state = .arming →
    (s.voter.groups.get g).confirm = .running 0 →
    ∃ t, exec (.confirmTimerExpiry g) s = .next t ∧ tripsLocally g (s.voter.groups.get g) s t

/-- A trip line is asserted in reset, CONFIG and VALIDATING, and in the other states exactly while a group mapped to it is
TRIPPED, or is in FAULT with FAULT_ASSERTS set (the flags of an unused group count as clear). -/
def Obligations.TripLineLevels : Prop :=
  ∀ (s : State) (n : Fin 4), s.lineLevels.getLsbD n.val = true ↔
    s.active = false ∨
    ∃ g, (lineMask s.control.image g).getLsbD n.val = true ∧
      ((s.voter.groups.get g).state = .tripped ∨
        (s.voter.groups.get g).state = .fault ∧ (s.groupDesc g).used = true ∧ (s.groupDesc g).faultAsserts = true)

/-! ### Events -/

/-- An event raised joins the tail of the event queue with the present local time, when the bit of its kind is set in the
event mask and the queue holds fewer than 32 records; a full queue discards it and sets the overflow flag; a masked
event changes nothing. POP-EVENT answers OK with the oldest record and the overflow flag and removes that record, or
answers EMPTY; it clears the flag, and ATTN stays asserted exactly while a record is left. The bytes of a record are those
of R178; that the overflow flag is answered as 0x01 for set and 0x00 for clear is the model's choice (log entry 21). -/
def Obligations.EventsRecordedAndPopped : Prop :=
  (∀ (g : Sys2Proof.Group) (p : Point) (a : Station) (e : Epoch) (n : Fin 16),
    let rows : List (Event × Nat × Nat × List Nat) :=
      let hi := e.toNat / 256
      let lo := e.toNat % 256
      [(.groupTripped g .localTrip, 0, g.val, [1, 255, 0, 0]), (.groupTripped g (.remote a), 0, g.val, [2, a.val, 0, 0]),
       (.groupReleased g a, 1, g.val, [a.val, 0, 0, 0]),
       (.groupReleaseRefused g a .satisfied, 2, g.val, [a.val, 3, 0, 0]),
       (.groupReleaseRefused g a .noBasis, 2, g.val, [a.val, 4, 0, 0]),
       (.groupFault g, 3, g.val, [0, 0, 0, 0]), (.groupFaultEnded g, 4, g.val, [0, 0, 0, 0]),
       (.pointStale p, 5, p.val, [0, 0, 0, 0]),
       (.pointAcquired p e .claim, 6, p.val, [hi, lo, 1, 0]), (.pointAcquired p e .yield, 6, p.val, [hi, lo, 2, 0]),
       (.pointReleased p e a .demoted, 7, p.val, [hi, lo, a.val, 1]),
       (.pointReleased p e a .yielded, 7, p.val, [hi, lo, a.val, 2]),
       (.reclaimForced p, 8, p.val, [0, 0, 0, 0]), (.epochLimit p, 9, p.val, [0, 0, 0, 0]),
       (.stationState a .present, 10, a.val, [1, 0, 0, 0]), (.stationState a .silent, 10, a.val, [2, 0, 0, 0]),
       (.stationState a .mismatched, 10, a.val, [3, 0, 0, 0]),
       (.duplicateStation, 11, 255, [0, 0, 0, 0]), (.linkIsolated, 12, 255, [0, 0, 0, 0]),
       (.linkRestored, 13, 255, [0, 0, 0, 0]), (.sampleRejected (some n) .illegalInput, 14, n.val, [1, 0, 0, 0]),
       (.sampleRejected (some n) .unmapped, 14, n.val, [2, 0, 0, 0]),
       (.sampleRejected none .short, 14, 255, [3, 0, 0, 0]), (.runEntered, 15, 255, [0, 0, 0, 0])]
    ∀ x ∈ rows, x.1.code = x.2.1 ∧ x.1.subject.toNat = x.2.2.1 ∧ x.1.detail.map (fun b => b.toNat) = x.2.2.2) ∧
  (∀ (e : Event) (s : State),
    let q := s.events
    ((imageHalf s.control.image 18).getLsbD e.code = false → raise e s = s) ∧
    ((imageHalf s.control.image 18).getLsbD e.code = true →
      (q.records.length < 32 → raise e s =
        { s with events := { q with records := q.records ++ [{ event := e, time := q.time }], attn := true } }) ∧
      (32 ≤ q.records.length → raise e s = { s with events := { q with overflow := true } }))) ∧
  (∀ s : State, Ready s →
    (∀ r rest, s.events.records = r :: rest →
      exec .popEvent s = .next { s with
        events := { s.events with records := rest, overflow := false, attn := !rest.isEmpty }
        port := { s.port with
          miso := .response (0x00 :: BitVec.ofNat 8 r.event.code :: (if s.events.overflow then 1#8 else 0#8) ::
            (Word.bytes r.time ++ (r.event.subject :: r.event.detail))) } }) ∧
    (s.events.records = [] →
      exec .popEvent s = .next { s with
        events := { s.events with overflow := false }
        port := { s.port with miso := .response [0x05] } }))

/-! ### Timers -/

/-- Timer expiries that set one mark or re-examine one entry: the refresh timer makes its point due and stops; the
claim-retry and the holdoff timer stop and their entry is re-examined; the presence timer sets presence pending and
starts again, in RUN alone. A reclaim-wait timer expires with the standby still owner: it stops, the lapsed mark is
set, RECLAIM_FORCED is raised, and the entry's triggers are re-examined; with another owner the lapsed mark and the
event fail to appear. -/
def Obligations.TimerExpiries : Prop :=
  ((∀ (s : State) (p : Point), s.active = true → (s.publisher.records.get p).refresh = .running 0 →
    exec (.refreshTimerExpiry p) s = .next (makeDue p { s with
      publisher := { s.publisher with
        records := s.publisher.records.set p { s.publisher.records.get p with refresh := .stopped } } })) ∧
  (∀ (s : State) (i : Input) (c : CustodyEntry), s.active = true → s.custody.table.get i = some c →
    c.claimRetry = .running 0 →
    exec (.claimRetryExpiry i) s = .next (reexamine i { s with
      custody := { s.custody with table := s.custody.table.set i (some { c with claimRetry := .stopped }) } })) ∧
  (∀ (s : State) (i : Input) (c : CustodyEntry), s.active = true → s.custody.table.get i = some c →
    c.holdoff = .running 0 →
    exec (.holdoffExpiry i) s = .next (reexamine i { s with
      custody := { s.custody with table := s.custody.table.set i (some { c with holdoff := .stopped }) } })) ∧
  ∀ s : State, s.control.rstAsserted = false → s.control.state = .run → s.roster.presenceTimer = .running 0 →
    exec .presenceTimerExpiry s = .next { s with
      roster := { s.roster with
        presencePending := true
        presenceTimer := .running (imageByte s.control.image 32).toNat } }) ∧
  (∀ (s : State) (i : Input) (c : CustodyEntry), s.active = true → s.custody.table.get i = some c → c.role = .home →
    c.reclaimWait = .running 0 →
    (∀ b, (s.desc c.point).standbyStation = some b → (s.mirror.get c.point).owner = some b →
      exec (.reclaimWaitExpiry i) s = .next (reexamine i (raise (.reclaimForced c.point) { s with
        custody := { s.custody with
          table := s.custody.table.set i (some { c with reclaimWait := .stopped, lapsed := true }) } }))) ∧
    ((∀ b, (s.desc c.point).standbyStation = some b → (s.mirror.get c.point).owner ≠ some b) →
      exec (.reclaimWaitExpiry i) s = .next (reexamine i { s with
        custody := { s.custody with
          table := s.custody.table.set i (some { c with reclaimWait := .stopped }) } })))

/-- A silence timer expires: the entry becomes SILENT with its last digest kept and the timer stopped, STATION_STATE is
raised, and every custody entry whose other station is this one is re-examined, in increasing input number (log entry 10: the
model's order). -/
def Obligations.SilenceExpiry : Prop :=
  ∀ (s : State) (a : Station), s.active = true → (s.roster.entries.get a).state = .present →
    (s.roster.entries.get a).silence = .running 0 →
    exec (.silenceTimerExpiry a) s = .next (reexamineOthers a (raise (.stationState a .silent) { s with
      roster := { s.roster with
        entries := s.roster.entries.set a { s.roster.entries.get a with state := .silent, silence := .stopped } } }))

/-- Where a rule gives an event only in some states, its command in any other state changes nothing (log entries 2, 3 and
8: the model's reading). An expiry needs its timer running with no time left, in LISTEN, RUN or ISOLATED, and a timer
of one station state that state; a completion needs a frame on the link or one heard back already, a collision a frame on the
link, a jam's end a jam, a win a deferral in RUN at a station with no end of a frame of its own to come, an idle event a quiet
station of that kind with its receiver on, and a completed validation the state VALIDATING.
A host command is not taken while RSTn is asserted, and the first one after a release with MCSn low ends the port's
wait alone. -/
def Obligations.EventsThatCannotOccur : Prop :=
  ∀ s : State,
    (∀ p, s.active = false ∨ (s.mirror.get p).freshness ≠ .running 0 → exec (.freshnessExpiry p) s = .next s) ∧
    (∀ g, s.active = false ∨ (s.voter.groups.get g).confirm ≠ .running 0 → exec (.confirmTimerExpiry g) s = .next s) ∧
    (∀ p, s.active = false ∨ (s.publisher.records.get p).refresh ≠ .running 0 →
      exec (.refreshTimerExpiry p) s = .next s) ∧
    (∀ i, s.active = false ∨ (∀ c, s.custody.table.get i = some c → c.claimRetry ≠ .running 0) →
      exec (.claimRetryExpiry i) s = .next s) ∧
    (∀ i, s.active = false ∨ (∀ c, s.custody.table.get i = some c → c.reclaimWait ≠ .running 0) →
      exec (.reclaimWaitExpiry i) s = .next s) ∧
    (∀ i, s.active = false ∨ (∀ c, s.custody.table.get i = some c → c.holdoff ≠ .running 0) →
      exec (.holdoffExpiry i) s = .next s) ∧
    (∀ a, s.active = false ∨ (s.roster.entries.get a).silence ≠ .running 0 → exec (.silenceTimerExpiry a) s = .next s) ∧
    (s.active = false ∨ s.control.state ≠ .run ∨ s.roster.presenceTimer ≠ .running 0 →
      exec .presenceTimerExpiry s = .next s) ∧
    (s.active = false ∨ s.control.state ≠ .listen ∨ s.control.listen ≠ .running 0 →
      exec .listenTimerExpiry s = .next s) ∧
    (s.active = false ∨ s.control.state ≠ .isolated ∨ s.control.isolation ≠ .running 0 →
      exec .isolationHoldExpiry s = .next s) ∧
    ((∀ f, ¬ Completes s f) → exec .completion s = .next s) ∧
    ((∀ f, s.link.transmission ≠ .frame f) → exec .collision s = .next s) ∧
    (s.link.transmission ≠ .jam → s.link.transmission ≠ .resetJam → exec .jamEnd s = .next s) ∧
    (s.active = false ∨ s.control.state ≠ .run ∨ ¬ Free s ∨ s.link.deferral = none →
      exec .win s = .next s) ∧
    (s.active = false ∨ ¬ Free s → exec .idleEvent s = .next s) ∧
    (∀ carrier, s.control.rstAsserted = true ∨ s.control.state ≠ .validating →
      exec (.validationCompletion carrier) s = .next s) ∧
    ∀ c : Instr, commandByte c ≠ none ∨ c = .partialCommandDiscarded ∨ (∃ b, c = .unknownCommandByte b) →
      (s.control.rstAsserted = true → exec c s = .next s) ∧
      (s.control.rstAsserted = false → s.port.waiting = true →
        exec c s = .next { s with port := { waiting := false, miso := .highImpedance } })

/-! ### Custody triggers -/

/-- The standby claim: a re-examination in RUN makes a STANDBY point claim due when its home owns it and is away, the
context has taken a sample, the claim-retry timer is stopped and claim due is clear; at epoch 65535 it raises
EPOCH_LIMIT once. Outside RUN a re-examination does nothing, whatever the entry, and neither does one of a HOME point without
a standby. The home forced claim: a re-examination in RUN makes a HOME point claim due when its standby owns it
and is away, or the lapsed mark is set, the claim-retry timer is stopped and claim due is clear; at epoch 65535 it
raises EPOCH_LIMIT once. Stated where the home reclaim is ruled out; where both hold, see `HomeReclaimTrigger`. -/
def Obligations.ClaimTriggers : Prop :=
  (∀ (s : State) (i : Input), s.control.state ≠ .run → reexamine i s = s) ∧
  (∀ (s : State) (i : Input) (c : CustodyEntry), s.custody.table.get i = some c → c.role = .home →
    (s.desc c.point).standbyStation = none → reexamine i s = s) ∧
  (∀ (s : State) (i : Input) (c : CustodyEntry), s.custody.table.get i = some c → c.role = .standby →
    let e := s.mirror.get c.point
    let holds := s.control.state = .run ∧
      (∃ h, (s.desc c.point).homeStation = some h ∧ e.owner = some h ∧
        ((s.roster.entries.get h).state = .absent ∨ (s.roster.entries.get h).state = .silent ∨
          (s.roster.entries.get h).state = .mismatched)) ∧
      (s.contexts.get i).quality ≠ .none ∧ c.claimRetry = .stopped ∧ c.claimDue = false
    (¬ holds → reexamine i s = s) ∧
    (holds → e.epoch = 65535#16 → reexamine i s = limitReport i c s) ∧
    (holds → e.epoch ≠ 65535#16 → offered .claim { s with
      custody := { s.custody with table := s.custody.table.set i (some { c with claimDue := true }) } } (reexamine i s))) ∧
  (∀ (s : State) (i : Input) (c : CustodyEntry) (b : Station), s.custody.table.get i = some c → c.role = .home →
    (s.desc c.point).standbyStation = some b →
    (s.roster.entries.get b).state ≠ .present ∨ c.holdoff ≠ .stopped ∨ c.reclaimWait ≠ .stopped ∨ c.reclaimDue = true →
    let e := s.mirror.get c.point
    let holds := s.control.state = .run ∧ e.owner = some b ∧
      ((s.roster.entries.get b).state = .absent ∨ (s.roster.entries.get b).state = .silent ∨
        (s.roster.entries.get b).state = .mismatched ∨ c.lapsed = true) ∧
      c.claimRetry = .stopped ∧ c.claimDue = false
    (¬ holds → reexamine i s = s) ∧
    (holds → e.epoch = 65535#16 → reexamine i s = limitReport i c s) ∧
    (holds → e.epoch ≠ 65535#16 → offered .claim { s with
      custody := { s.custody with table := s.custody.table.set i (some { c with claimDue := true }) } } (reexamine i s)))

/-- The home reclaim: a re-examination in RUN makes a HOME point reclaim due when its standby owns it and is PRESENT, the
holdoff and the reclaim-wait timer are stopped and reclaim due is clear; at epoch 65535 it raises EPOCH_LIMIT once. Where the
lapsed mark makes the point claim due as well, both marks are set, the claim first (log entry 10: the model's order). Where
neither trigger holds, outside RUN among others, nothing happens. -/
def Obligations.HomeReclaimTrigger : Prop :=
  ∀ (s : State) (i : Input) (c : CustodyEntry) (b : Station), s.custody.table.get i = some c → c.role = .home →
    (s.desc c.point).standbyStation = some b → (s.roster.entries.get b).state = .present →
    let e := s.mirror.get c.point
    let holds := s.control.state = .run ∧ e.owner = some b ∧ c.holdoff = .stopped ∧ c.reclaimWait = .stopped ∧
      c.reclaimDue = false
    let claimsToo := s.control.state = .run ∧ e.owner = some b ∧ c.lapsed = true ∧ c.claimRetry = .stopped ∧
      c.claimDue = false
    (¬ holds → ¬ claimsToo → reexamine i s = s) ∧
    (holds → e.epoch = 65535#16 → reexamine i s = limitReport i c s) ∧
    (holds → ¬ claimsToo → e.epoch ≠ 65535#16 → offered .reclaim { s with
      custody := { s.custody with table := s.custody.table.set i (some { c with reclaimDue := true }) } } (reexamine i s)) ∧
    (holds → claimsToo → e.epoch ≠ 65535#16 →
      ∃ u, offered .claim { s with
          custody := { s.custody with table := s.custody.table.set i (some { c with claimDue := true }) } } u ∧
        offered .reclaim { u with
          custody := { u.custody with
            table := s.custody.table.set i (some { c with claimDue := true, reclaimDue := true }) } } (reexamine i s))

/-- The host RECLAIM in RUN stops the holdoff timer of every HOME entry, re-examines every entry, in increasing input number
(log entry 10: the model's order), and is answered OK; in every other state it is answered BAD_STATE and changes nothing. -/
def Obligations.HostReclaim : Prop :=
  ∀ s : State, Ready s →
    (s.control.state ≠ .run → exec .reclaim s = .next { s with port := { s.port with miso := .response [0x02] } }) ∧
    (s.control.state = .run →
      ∃ u t, u = { s with custody := { s.custody with table := u.custody.table } } ∧
        (∀ i, s.custody.table.get i = none → u.custody.table.get i = none) ∧
        (∀ i c, s.custody.table.get i = some c →
          u.custody.table.get i = some (if c.role = .home then { c with holdoff := .stopped } else c)) ∧
        t = (List.finRange 8).foldl (fun t i => reexamine i t) u ∧
        exec .reclaim s = .next { t with port := { t.port with miso := .response [0x00] } })

/-! ### Episodes on the link -/

/-- Episodes that are not taken: with the receiver off; during one's own transmission, and between the loopback and the completion
of one's own frame (log entry 18); the one that was under way
as the receiver was switched on, whose end alone is noted; and the jam or truncated frame that ends the episode in which the
station itself collided, its own jam being over (log entry 22). Otherwise a jam, a truncated frame and a frame that fails
checks 1 to 3 raise the rejected-frame count by 1, saturating at 65535; a jam also sets both class anchors to 15, and nothing
else changes, but that a loopback still owed is owed no longer (log entry 5). Any of the eight frame commands may bring the
bytes (log entry 4). -/
def Obligations.EpisodesRejected : Prop :=
  (∀ (s : State) (bytes : List Byte) (c : Instr), c ∈ Instr.jam :: .truncatedFrame :: frameCommands bytes →
    (s.active = false → exec c s = .next s) ∧
    (s.active = true → s.link.ignoring = true → exec c s = .next { s with link := { s.link with ignoring := false } }) ∧
    (s.active = true → s.link.ignoring = false →
      s.link.transmission = .jam ∨ s.link.transmission = .resetJam ∨
        (∃ f, s.link.transmission = .frame f ∧ f.bytes ≠ bytes) ∨
        s.link.transmission = .idle ∧ s.link.completion ≠ none →
      exec c s = .next s)) ∧
  (∀ (s : State) (bytes : List Byte), Hears s →
    let l := { s.link with rejected := min (s.link.rejected + 1) 65535, loopback := none, jammed := false }
    (parseFrame bytes = none → ∀ c ∈ frameCommands bytes, exec c s = .next { s with link := l }) ∧
    (s.link.jammed = false →
      exec .jam s = .next { s with link := { l with normalAnchor := 15, backgroundAnchor := 15 } } ∧
      exec .truncatedFrame s = .next { s with link := l }) ∧
    (s.link.jammed = true → ∀ c ∈ [Instr.jam, .truncatedFrame],
      exec c s = .next { s with link := { s.link with loopback := none, jammed := false } }))

/-- A valid frame that bears this station's number and is not its loopback raises DUPLICATE_STATION; a frame of another kind
than PRESENCE from a station that is not PRESENT is discarded; both still set their class anchor, and change nothing else.
The loopback is told by its bytes, and one still owed is owed no longer after another frame (log entry 5); any of the eight
frame commands may bring the bytes (log entry 4). -/
def Obligations.DuplicateAndDiscardedFrames : Prop :=
  ∀ (s : State) (bytes : List Byte) (f : Frame) (c : Instr), c ∈ frameCommands bytes → Hears s →
    parseFrame bytes = some f →
    (f.sender = s.own → (∀ g, s.link.loopback = some g → g.bytes ≠ bytes) →
      exec c s = .next (raise .duplicateStation { s with link := anchored f s.link })) ∧
    (f.sender ≠ s.own → (∀ g, s.link.loopback = some g → g.bytes ≠ bytes) → isPresence f.payload = false →
      (s.roster.entries.get f.sender).state ≠ .present → exec c s = .next { s with link := anchored f s.link })

/-- Records and listed points are taken one at a time, in frame order: those of a frame from a sender that is PRESENT, and
those of the station's own frame, heard back. Parts of a frame that have no effect: a record, a statement or a RECLAIM entry
about a point above 63, a statement about a station above 15, a record whose status names no hit or whose debounce pair names
no side, whoever sent it, a GOOD record without a value for a FULL or VALUE_ONLY point, an assertion by a station that is
neither home nor standby, a YIELD record from another station than the standby, and a RECLAIM entry for a point with no custody
entry here, from another station than its home, or not owned here. -/
def Obligations.RecordsTakenInOrder : Prop :=
  (∀ (s u : State) (bytes : List Byte) (f : Frame),
    PartnerFrame s bytes f ∧ u = admittedState f s ∨ OwnLoopback s bytes f ∧ u = heardBack f s →
    (∀ rs, f.payload = .point rs → exec (.pointFrame bytes) s = .next (rs.foldl (takePointRecord f.sender) u)) ∧
    (∀ rs, f.payload = .claim rs → exec (.claimFrame bytes) s = .next (rs.foldl (takeClaimRecord f.sender) u)) ∧
    (∀ rs, f.payload = .yield rs → exec (.yieldFrame bytes) s = .next (rs.foldl (takeYieldRecord f.sender) u)) ∧
    ∀ ps, f.payload = .reclaim ps → exec (.reclaimFrame bytes) s = .next (ps.foldl (takeReclaimPoint f.sender) u)) ∧
  (∀ (a : Station) (s : State),
    let malformed (p : Point) (r : Record) : Prop :=
      5 ≤ r.hit.toNat ∨ r.quality = .good ∧ r.value = none ∧ (s.desc p).publish ≠ .hitOnly
    let foreign (p : Point) : Prop := (s.mirror.get p).inUse = false ∨
      (s.desc p).homeStation ≠ some a ∧ (s.desc p).standbyStation ≠ some a
    (∀ r : Record, (∀ p, pointOfByte r.point = some p → malformed p r ∨ foreign p) → takePointRecord a s r = s) ∧
    (∀ r : CustodyRecord,
      (∀ p, pointOfByte r.record.point = some p →
        malformed p r.record ∨ 4 ≤ r.debounce.candidate.toNat ∨ foreign p) → takeClaimRecord a s r = s) ∧
    (∀ r : CustodyRecord,
      (∀ p, pointOfByte r.record.point = some p →
        malformed p r.record ∨ 4 ≤ r.debounce.candidate.toNat ∨ foreign p ∨ (s.desc p).standbyStation ≠ some a) →
      takeYieldRecord a s r = s) ∧
    ∀ b : Byte,
      (∀ p, pointOfByte b = some p → (∀ i c, s.custody.table.get i = some c → c.point ≠ p) ∨
        (s.desc p).homeStation ≠ some a ∨ (s.mirror.get p).inUse = false ∨ (s.mirror.get p).owner ≠ some s.own) →
      takeReclaimPoint a s b = s) ∧
  ∀ (point : Byte) (o : Option Station) (e : Epoch) (fromNotice : Bool) (s : State),
    (∀ p a, pointOfByte point = some p → o = some a → (s.mirror.get p).inUse = false ∨
      (s.desc p).homeStation ≠ some a ∧ (s.desc p).standbyStation ≠ some a) →
    takeStatement point o e fromNotice s = s

/-! ### Assertions -/

/-- The acceptance rule, by the table of R66, and what an accepted assertion does where the custody statements below do not say
it. Without content (an acted pair or a notice): at an unchanged owner the epoch alone moves, a lower one places a notice for
a pair; a new owner sets the fields; at a bound point a demotion and a promotion follow, with no content write but the
promotion's, and the entry is re-examined. With content (a POINT or a CLAIM record), the record write follows at a point that
the owner keeps and this station does not own, at a station with no input bound to the point, and after a demotion, ahead of the
re-examination; a record of this station's own for a bound point writes nothing. -/
def Obligations.AssertionTable : Prop :=
  (∀ (d : PointDesc) (entry : MirrorEntry) (a o : Station) (e : Epoch) (fromNotice : Bool), entry.owner = some o →
    let m := entry.epoch
    let serves := d.homeStation = some a ∨ d.standbyStation = some a
    (entry.inUse = false ∨ ¬ serves → acceptance d entry a e fromNotice = .foreign) ∧
    (entry.inUse = true → serves →
      (a = o → m ≤ e → acceptance d entry a e fromNotice = .accepted o e false) ∧
      (a = o → e < m → acceptance d entry a e fromNotice = .accepted o m (!fromNotice)) ∧
      (a ≠ o → m < e → acceptance d entry a e fromNotice = .accepted a e false) ∧
      (a ≠ o → e = m → d.homeStation = some a → d.standbyStation = some o →
        acceptance d entry a e fromNotice = .accepted a e false) ∧
      (a ≠ o → e ≤ m → ¬ (e = m ∧ d.homeStation = some a ∧ d.standbyStation = some o) →
        acceptance d entry a e fromNotice = .rejected (!fromNotice)))) ∧
  (∀ (s : State) (b : Byte) (p : Point) (a o : Station) (e : Epoch) (fromNotice : Bool), pointOfByte b = some p →
    (s.mirror.get p).inUse = true → (s.mirror.get p).owner = some o →
    (s.desc p).homeStation = some a ∨ (s.desc p).standbyStation = some a →
    (∀ i, (s.contexts.get i).point = some p → (s.contexts.get i).role = roleFor s (some p)) →
    let x := s.mirror.get p
    let moved : State := { s with mirror := s.mirror.set p { x with owner := some a, epoch := e } }
    let taken := takeStatement b (some a) e fromNotice s
    let wins := x.epoch < e ∨ e = x.epoch ∧ (s.desc p).homeStation = some a ∧ (s.desc p).standbyStation = some o
    (a = o → e = x.epoch → taken = s) ∧
    (a = o → e < x.epoch → taken = if fromNotice then s else placeNotice p s) ∧
    let changes := a = o ∧ x.epoch < e ∨ a ≠ o ∧ wins
    (o ≠ s.own → a ≠ s.own → Unbound s p → changes → taken = moved) ∧
    (o ≠ s.own → a ≠ s.own → a = o ∧ e ≤ x.epoch ∨ Unbound s p ∧ changes →
      ∀ (r : Record) (h : Hit), r.point = b → r.epoch = e → hitOfCode r.hit = some h →
        ¬ (r.quality = .good ∧ r.value = none ∧ (s.desc p).publish ≠ .hitOnly) →
        let u := contentTaken s p a r h (decide (e < x.epoch))
        takePointRecord a s r = u ∧
        ∀ w : Debounce, handoverOf w ≠ none → takeClaimRecord a s { record := r, debounce := w } = u) ∧
    (∀ i c, BoundAt s p i c →
      (a = o → x.epoch < e → taken = reexamine i moved) ∧
      (o = s.own → a ≠ o → wins → taken = reexamine i (demotedState s p i c a e)) ∧
      (a = s.own → a ≠ o → wins →
        let y : Context := { s.contexts.get i with role := .acting }
        let x' := written { x with owner := some a, epoch := e } (s.desc p).freshness y.quality y.hit
          (if y.quality = .good ∧ (s.desc p).publish ≠ .hitOnly then y.lastValue else none)
        let u := raise (.pointAcquired p e .claim) { s with
          contexts := s.contexts.set i y, mirror := s.mirror.set p x' }
        let u' := if x'.quality = x.quality ∧ x'.hit = x.hit then u else passToVoter p u
        let v := makeDue p (passToPublisher p x.quality x.hit u')
        taken = reexamine i { v with
          custody := { s.custody with table := s.custody.table.set i (some (promoted c)) } }) ∧
      ∀ (r : Record) (h : Hit), r.point = b → r.epoch = e → hitOfCode r.hit = some h →
        ¬ (r.quality = .good ∧ r.value = none ∧ (s.desc p).publish ≠ .hitOnly) →
        let takes (t : State) : Prop := takePointRecord a s r = t ∧
          ∀ w : Debounce, handoverOf w ≠ none → takeClaimRecord a s { record := r, debounce := w } = t
        (a = s.own → takes (takeStatement b (some a) e false s)) ∧
        (a = o → a ≠ s.own → x.epoch < e → takes (reexamine i (contentTaken s p a r h false))) ∧
        (o = s.own → a ≠ o → wins → takes (reexamine i (contentTaken (demotedState s p i c a e) p a r h false)))))

/-- The acceptance rule for a YIELD record, by the table of R67, and the effect of an accepted one where the owner does not change
hands at this station: with no input bound to the point, the home owns it, and the record write follows; at a bound point that the
home owns already, the home itself drops the content, the standby takes it, and a raised epoch has the entry re-examined. -/
def Obligations.YieldTable : Prop :=
  (∀ (d : PointDesc) (entry : MirrorEntry) (a h o : Station) (e : Epoch), d.homeStation = some h → entry.owner = some o →
    let m := entry.epoch
    (entry.inUse = false ∨ d.standbyStation ≠ some a → yieldAcceptance d entry a e = .foreign) ∧
    (entry.inUse = true → d.standbyStation = some a →
      (o = h → m ≤ e → yieldAcceptance d entry a e = .accepted h e false) ∧
      (o = h → e < m → yieldAcceptance d entry a e = .accepted h m true) ∧
      (o ≠ h → o = a → m ≤ e → yieldAcceptance d entry a e = .accepted h e false) ∧
      (o ≠ h → o = a → e < m → yieldAcceptance d entry a e = .rejected true))) ∧
  (∀ (s : State) (b : Byte) (p : Point) (a h o : Station) (r : CustodyRecord) (x : Hit), pointOfByte b = some p →
    r.record.point = b → (s.mirror.get p).inUse = true → (s.mirror.get p).owner = some o → Unbound s p → h ≠ s.own →
    o ≠ s.own → (s.desc p).homeStation = some h → (s.desc p).standbyStation = some a →
    o = h ∨ o = a ∧ (s.mirror.get p).epoch ≤ r.record.epoch → hitOfCode r.record.hit = some x →
    ¬ (r.record.quality = .good ∧ r.record.value = none ∧ (s.desc p).publish ≠ .hitOnly) → handoverOf r.debounce ≠ none →
    takeYieldRecord a s r = contentTaken s p h r.record x (decide (r.record.epoch < (s.mirror.get p).epoch))) ∧
  ∀ (s : State) (b : Byte) (p : Point) (a h : Station) (r : CustodyRecord) (x : Hit) (i : Input) (c : CustodyEntry),
    pointOfByte b = some p → r.record.point = b → BoundAt s p i c →
    (s.contexts.get i).role = roleFor s (some p) → (s.mirror.get p).owner = some h →
    (s.desc p).homeStation = some h → (s.desc p).standbyStation = some a → hitOfCode r.record.hit = some x →
    ¬ (r.record.quality = .good ∧ r.record.value = none ∧ (s.desc p).publish ≠ .hitOnly) → handoverOf r.debounce ≠ none →
    let y := s.mirror.get p
    let e := r.record.epoch
    (h = s.own → e < y.epoch → takeYieldRecord a s r = placeNotice p s) ∧
    (h = s.own → e = y.epoch → takeYieldRecord a s r = s) ∧
    (h = s.own → y.epoch < e → takeYieldRecord a s r =
      reexamine i { s with mirror := s.mirror.set p { y with epoch := e } }) ∧
    (h ≠ s.own → e ≤ y.epoch → takeYieldRecord a s r = contentTaken s p h r.record x (decide (e < y.epoch))) ∧
    (h ≠ s.own → y.epoch < e → takeYieldRecord a s r = reexamine i (contentTaken s p h r.record x false))

/-- A notice is placed with the mirror's owner and epoch: in place of the point's entry, at the tail of a list of fewer than 8
entries, or nowhere. A rejected assertion does nothing else: a record and an acted pair place the notice and write no content,
and a statement that comes from a notice places none. -/
def Obligations.NoticePlacement : Prop :=
  (∀ (s : State) (p : Point) (o : Station), (s.mirror.get p).owner = some o →
    let n : Notice := { point := p, owner := o, epoch := (s.mirror.get p).epoch }
    let l := s.custody.notices
    (∀ before after x, l = before ++ x :: after → x.point = p → (∀ y ∈ before, y.point ≠ p) →
      placeNotice p s = { s with custody := { s.custody with notices := before ++ n :: after } }) ∧
    ((∀ y ∈ l, y.point ≠ p) → l.length < 8 →
      placeNotice p s = { s with custody := { s.custody with notices := l ++ [n] } }) ∧
    ((∀ y ∈ l, y.point ≠ p) → 8 ≤ l.length → placeNotice p s = s)) ∧
  ∀ (s : State) (b : Byte) (p : Point) (a o : Station) (e : Epoch), pointOfByte b = some p →
    (s.mirror.get p).inUse = true → (s.mirror.get p).owner = some o →
    (s.desc p).homeStation = some a ∨ (s.desc p).standbyStation = some a →
    let m := (s.mirror.get p).epoch
    (a ≠ o → e ≤ m → ¬ (e = m ∧ (s.desc p).homeStation = some a ∧ (s.desc p).standbyStation = some o) →
      takeStatement b (some a) e true s = s ∧ takeStatement b (some a) e false s = placeNotice p s ∧
      ∀ r : Record, r.point = b → r.epoch = e → recordContent (s.desc p).publish r ≠ none →
        takePointRecord a s r = placeNotice p s ∧
        ∀ w : Debounce, handoverOf w ≠ none → takeClaimRecord a s { record := r, debounce := w } = placeNotice p s) ∧
    ∀ (h : Station) (r : CustodyRecord), (s.desc p).homeStation = some h → (s.desc p).standbyStation = some a → h ≠ a →
      o = a → e < m → r.record.point = b → r.record.epoch = e → recordContent (s.desc p).publish r.record ≠ none →
      handoverOf r.debounce ≠ none → takeYieldRecord a s r = placeNotice p s

/-- Two CLAIM records for one point at the same new epoch, one from its home and one from its standby, leave the home as
owner at that epoch in either order; where the home's comes first, the standby's is rejected with a notice. -/
def Obligations.SimultaneousClaims : Prop :=
  ∀ (s : State) (p : Point) (a b : Station) (m : Epoch) (ra rb : CustodyRecord),
    (s.mirror.get p).inUse = true → (s.desc p).homeStation = some a → (s.desc p).standbyStation = some b → a ≠ b →
    (s.mirror.get p).owner = some a ∨ (s.mirror.get p).owner = some b → (s.mirror.get p).epoch = m → m.toNat < 65535 →
    pointOfByte ra.record.point = some p → pointOfByte rb.record.point = some p →
    ra.record.epoch = m + 1 → rb.record.epoch = m + 1 →
    recordContent (s.desc p).publish ra.record ≠ none → recordContent (s.desc p).publish rb.record ≠ none →
    handoverOf ra.debounce ≠ none → handoverOf rb.debounce ≠ none →
    let homeFirst := takeClaimRecord b (takeClaimRecord a s ra) rb
    let standbyFirst := takeClaimRecord a (takeClaimRecord b s rb) ra
    (homeFirst.mirror.get p).owner = some a ∧ (homeFirst.mirror.get p).epoch = m + 1 ∧
    (standbyFirst.mirror.get p).owner = some a ∧ (standbyFirst.mirror.get p).epoch = m + 1 ∧
    homeFirst.custody.notices = placeIn s.custody.notices { point := p, owner := a, epoch := m + 1 } ∧
    standbyFirst.custody.notices = s.custody.notices

/-! ### Content and custody through frames -/

/-- A POINT frame with one record, by the recorded owner at the epoch this station holds, for a point it does not own: the
record write, the epoch and the owner as they were, and the change passed to the voter alone. This station's own POINT
frame, heard back, for a point it acts for at the epoch its mirror holds: the record is dropped (the self-owner case),
and only the normal anchor moves. As in every statement about the station's own frame heard back, the loopback may come
after the completion or ahead of it, at the end of the frame, which releases LTXEN with the completion to come (R132, R140). -/
def Obligations.PointRecordsTaken : Prop :=
  (∀ (s : State) (bytes : List Byte) (f : Frame) (r : Record) (p : Point) (h : Hit), PartnerFrame s bytes f →
    f.payload = .point [r] → pointOfByte r.point = some p → hitOfCode r.hit = some h →
    ¬ (r.quality = .good ∧ r.value = none ∧ (s.desc p).publish ≠ .hitOnly) →
    (s.mirror.get p).inUse = true → (s.mirror.get p).owner = some f.sender → r.epoch = (s.mirror.get p).epoch →
    (s.desc p).homeStation = some f.sender ∨ (s.desc p).standbyStation = some f.sender →
    (∀ i, (s.contexts.get i).point = some p → (s.contexts.get i).role = .shadow) →
    let e := s.mirror.get p
    let u := admittedState f s
    let e' := written e (s.desc p).freshness r.quality (placedHit (s.desc p) e.hit h) (placedValue (s.desc p) r)
    let t := { u with mirror := s.mirror.set p e' }
    (r.quality = e.quality → placedHit (s.desc p) e.hit h = e.hit → exec (.pointFrame bytes) s = .next t) ∧
    (r.quality ≠ e.quality ∨ placedHit (s.desc p) e.hit h ≠ e.hit → exec (.pointFrame bytes) s = .next (passToVoter p t))) ∧
  (∀ (s : State) (bytes : List Byte) (f : Frame) (r : Record) (p : Point) (i : Input), OwnLoopback s bytes f →
    f.payload = .point [r] → pointOfByte r.point = some p → (s.mirror.get p).inUse = true →
    (s.mirror.get p).owner = some s.own → r.epoch = (s.mirror.get p).epoch →
    (s.desc p).homeStation = some s.own ∨ (s.desc p).standbyStation = some s.own →
    (s.contexts.get i).point = some p → (s.contexts.get i).role = .acting →
    (∀ j, (s.contexts.get j).point = some p → j = i) →
    exec (.pointFrame bytes) s = .next (heardBack f s))

/-- This station's own CLAIM, heard back: this station owns the point in its own mirror at the new epoch, its context becomes
ACTING, POINT_ACQUIRED is raised first, the promotion write places the context's state in place of the record's, the point
becomes due, and the claim and reclaim marks are cleared, at a home with the waits and the lapsed mark. -/
def Obligations.OwnClaimPromotes : Prop :=
  ∀ (s : State) (bytes : List Byte) (f : Frame) (r : CustodyRecord) (p : Point) (i : Input) (c : CustodyEntry)
    (o : Station), OwnLoopback s bytes f → f.payload = .claim [r] → pointOfByte r.record.point = some p →
    recordContent (s.desc p).publish r.record ≠ none → handoverOf r.debounce ≠ none → BoundAt s p i c →
    (s.mirror.get p).owner = some o → o ≠ s.own → (s.mirror.get p).epoch < r.record.epoch →
    (s.publisher.records.get p).carried = false →
    let x := s.contexts.get i
    ∃ t, exec (.claimFrame bytes) s = .next t ∧ OthersKept s t p i ∧
      t.contexts.get i = { x with role := .acting } ∧
      t.mirror.get p = written { s.mirror.get p with owner := some s.own, epoch := r.record.epoch } (s.desc p).freshness
        x.quality x.hit (if x.quality = .good ∧ (s.desc p).publish ≠ .hitOnly then x.lastValue else none) ∧
      t.custody.table.get i = some (promoted c) ∧
      p ∈ t.publisher.list ∧ (p ∉ s.publisher.list → t.publisher.list = s.publisher.list ++ [p] ∧
        t.publisher.records = s.publisher.records) ∧
      t.roster = s.roster ∧ t.link = { (heardBack f s).link with urgent := t.link.urgent } ∧
      ∃ later, t.events.records = (raise (.pointAcquired p r.record.epoch .claim) s).events.records ++ later

/-- A YIELD from the standby, taken at the home: the home owns the point at the record's epoch, its context loads the
record's debounce state and becomes ACTING, POINT_ACQUIRED is raised with path YIELD, and the promotion write places
the context. The debounce state that a YIELD record loads, by the table of R43. -/
def Obligations.YieldPromotesTheHome : Prop :=
  (∀ (s : State) (bytes : List Byte) (f : Frame) (r : CustodyRecord) (p : Point) (i : Input) (c : CustodyEntry)
    (h : Hit) (w : Handover), PartnerFrame s bytes f → f.payload = .yield [r] → pointOfByte r.record.point = some p →
    recordContent (s.desc p).publish r.record = some { quality := r.record.quality, hit := h, value := r.record.value } →
    handoverOf r.debounce = some w → BoundAt s p i c →
    (s.desc p).homeStation = some s.own → (s.desc p).standbyStation = some f.sender →
    (s.mirror.get p).owner = some f.sender → (s.mirror.get p).epoch ≤ r.record.epoch →
    let x := { loadContext (s.desc p) h w (s.contexts.get i) with role := .acting }
    ∃ t, exec (.yieldFrame bytes) s = .next t ∧ OthersKept s t p i ∧ t.contexts.get i = x ∧
      t.mirror.get p = written { s.mirror.get p with owner := some s.own, epoch := r.record.epoch } (s.desc p).freshness
        x.quality x.hit (if x.quality = .good ∧ (s.desc p).publish ≠ .hitOnly then x.lastValue else none) ∧
      t.custody.table.get i = some (promoted c) ∧ p ∈ t.publisher.list ∧
      t.roster = (heard f.sender s).roster ∧ t.link = { s.link with jammed := false, urgent := t.link.urgent } ∧
      ∃ later, t.events.records = (raise (.pointAcquired p r.record.epoch .yield) s).events.records ++ later) ∧
  (∀ (d : PointDesc) (carried : Hit) (w : Handover) (c : Context),
    let t := loadContext d carried w c
    t = { c with
      hit := t.hit, candidate := t.candidate, assertProgress := t.assertProgress, clearProgress := t.clearProgress } ∧
    (d.publish = .valueOnly → t.hit = .none) ∧
    (d.publish ≠ .valueOnly →
      (carried = .clear → t.hit = .clear) ∧
      (∀ x, carried = .side x → d.compare.produces x = true → t.hit = .side x) ∧
      (∀ x, carried = .side x → d.compare.produces x = false → t.hit = c.hit) ∧
      (carried = .none → t.hit = c.hit)) ∧
    (∀ x, t.candidate = some x ↔
      w.candidate = some x ∧ d.publish ≠ .valueOnly ∧ d.compare.produces x = true ∧ t.hit ≠ .side x) ∧
    (t.candidate = none → t.assertProgress = 0) ∧
    (t.candidate ≠ none → t.assertProgress = min w.assertProgress (d.assertCount - 1) ∧ t.clearProgress = 0) ∧
    (d.publish = .valueOnly → t.clearProgress = 0) ∧
    (t.candidate = none → d.publish ≠ .valueOnly →
      (t.hit = .clear → t.clearProgress = min w.clearProgress d.clearCount) ∧
      (t.hit ≠ .clear → t.clearProgress = min w.clearProgress (d.clearCount - 1))))

/-- The standby's own YIELD, heard back: the home owns the point at the new epoch, the context becomes SHADOW with its state
kept, POINT_RELEASED is raised with detail YIELDED, the point leaves the publish list with its record reset, the yield due
mark is cleared, the record write places the YIELD's content, and the entry is re-examined, as `ClaimTriggers` has it: with the
home PRESENT that does nothing, and with the home gone in the meantime it is the standby claim. -/
def Obligations.OwnYieldDemotes : Prop :=
  ∀ (s : State) (bytes : List Byte) (f : Frame) (r : CustodyRecord) (p : Point) (i : Input) (c : CustodyEntry)
    (h : Hit) (a : Station), OwnLoopback s bytes f → f.payload = .yield [r] → pointOfByte r.record.point = some p →
    recordContent (s.desc p).publish r.record = some { quality := r.record.quality, hit := h, value := r.record.value } →
    handoverOf r.debounce ≠ none → BoundAt s p i c → c.role = .standby →
    (s.desc p).homeStation = some a →
    (s.mirror.get p).owner = some s.own → (s.mirror.get p).epoch ≤ r.record.epoch →
    let e := s.mirror.get p
    ∃ t, exec (.yieldFrame bytes) s = .next (reexamine i t) ∧
      ((s.roster.entries.get a).state = .present → reexamine i t = t) ∧ OthersKept s t p i ∧
      t.contexts.get i = { s.contexts.get i with role := .shadow } ∧
      t.mirror.get p = written { e with owner := some a, epoch := r.record.epoch } (s.desc p).freshness
        r.record.quality (placedHit (s.desc p) e.hit h) (placedValue (s.desc p) r.record) ∧
      t.custody.table.get i = some { c with yieldDue := false } ∧ p ∉ t.publisher.list ∧
      t.publisher.records.get p = State.reset.publisher.records.get p ∧
      t.roster = s.roster ∧ t.link = { (heardBack f s).link with urgent := t.link.urgent } ∧
      ∃ later, t.events.records = (raise (.pointReleased p r.record.epoch a .yielded) s).events.records ++ later

/-- A CLAIM by the standby at a higher epoch, taken at the home that owned the point, and likewise the home's, at the same epoch or
a higher one, at the standby that owned it, and a POINT record of either in place of its CLAIM: the sender owns the point, the
context becomes SHADOW with its state kept, POINT_RELEASED is raised with detail DEMOTED, the point leaves the publish list with
its record reset, the yield due mark is cleared, at a home the holdoff starts (held where the image gives 0), the record write
places the record's content, and the entry is re-examined, which does nothing unless a home holds the lapsed mark. -/
def Obligations.StandbyClaimDemotesTheHome : Prop :=
  ∀ (s : State) (bytes : List Byte) (f : Frame) (r : CustodyRecord) (p : Point) (i : Input) (c : CustodyEntry)
    (h : Hit) (cmd : Instr), PartnerFrame s bytes f → pointOfByte r.record.point = some p →
    f.payload = .claim [r] ∧ handoverOf r.debounce ≠ none ∧ cmd = .claimFrame bytes ∨
      f.payload = .point [r.record] ∧ cmd = .pointFrame bytes →
    recordContent (s.desc p).publish r.record = some { quality := r.record.quality, hit := h, value := r.record.value } →
    BoundAt s p i c → (s.desc p).homeStation = some f.sender ∨ (s.desc p).standbyStation = some f.sender →
    (s.mirror.get p).owner = some s.own →
    (s.mirror.get p).epoch < r.record.epoch ∨
      (s.mirror.get p).epoch = r.record.epoch ∧ (s.desc p).homeStation = some f.sender →
    let e := s.mirror.get p
    ∃ t, exec cmd s = .next (reexamine i t) ∧ (c.role = .standby ∨ c.lapsed = false → reexamine i t = t) ∧
      OthersKept s t p i ∧
      t.contexts.get i = { s.contexts.get i with role := .shadow } ∧
      t.mirror.get p = written { e with owner := some f.sender, epoch := r.record.epoch } (s.desc p).freshness
        r.record.quality (placedHit (s.desc p) e.hit h) (placedValue (s.desc p) r.record) ∧
      t.custody.table.get i = some (demoted s c) ∧
      p ∉ t.publisher.list ∧ t.publisher.records.get p = State.reset.publisher.records.get p ∧
      t.roster = (heard f.sender s).roster ∧ t.link = { (admittedState f s).link with urgent := t.link.urgent } ∧
      ∃ later, t.events.records = (raise (.pointReleased p r.record.epoch f.sender .demoted) s).events.records ++ later

/-- A RECLAIM frame that lists one point: yield due is set at its standby when the sender is its home and this station its
recorded owner, and YIELD is offered; at epoch 65535 EPOCH_LIMIT is raised once; in every other case nothing happens. That a
yield due mark that is set already makes no new offer is the model's reading (log entry 12). -/
def Obligations.ReclaimMarksYield : Prop :=
  ∀ (s : State) (bytes : List Byte) (f : Frame) (b : Byte) (p : Point) (i : Input) (c : CustodyEntry),
    PartnerFrame s bytes f → f.payload = .reclaim [b] → pointOfByte b = some p → BoundAt s p i c →
    let u := admittedState f s
    let asked := (s.desc p).homeStation = some f.sender ∧ (s.mirror.get p).owner = some s.own
    (¬ asked → exec (.reclaimFrame bytes) s = .next u) ∧
    (asked → (s.mirror.get p).epoch = 65535#16 → exec (.reclaimFrame bytes) s = .next (limitReport i c u)) ∧
    (asked → (s.mirror.get p).epoch ≠ 65535#16 → c.yieldDue = true → exec (.reclaimFrame bytes) s = .next u) ∧
    (asked → (s.mirror.get p).epoch ≠ 65535#16 → c.yieldDue = false →
      ∃ t, exec (.reclaimFrame bytes) s = .next t ∧ offered .yield { u with
        custody := { u.custody with table := u.custody.table.set i (some { c with yieldDue := true }) } } t)

/-! ### TRIP and PRESENCE frames -/

/-- A TRIPPED frame from a partner: with FOLLOW set, a used group that is not TRIPPED enters TRIPPED with cause REMOTE and the
sender as announcer, GROUP_FAULT_ENDED first where it was in FAULT, and requests nothing; with FOLLOW clear, and at a group
that is TRIPPED already, unused or above 15, nothing changes. The station's own TRIPPED frame changes no group, and neither
does a TRIP frame with another subkind than TRIPPED and RELEASE. -/
def Obligations.TrippedFrameFollowed : Prop :=
  (∀ (s : State) (bytes : List Byte) (f : Frame) (b : Byte), PartnerFrame s bytes f → f.payload = .trip b 1 →
    let u := admittedState f s
    (16 ≤ b.toNat → exec (.trippedFrame bytes) s = .next u) ∧
    ∀ g : Sys2Proof.Group, b.toNat = g.val →
      let d := s.groupDesc g
      let r := s.voter.groups.get g
      let t := place g { r with
        state := .tripped, cause := some (.remote f.sender), confirm := .stopped, stamp := s.events.time } u
      (d.used = false ∨ d.follow = false ∨ r.state = .tripped → exec (.trippedFrame bytes) s = .next u) ∧
      (d.used = true → d.follow = true → r.state = .clear ∨ r.state = .arming →
        exec (.trippedFrame bytes) s = .next (raise (.groupTripped g (.remote f.sender)) t)) ∧
      (d.used = true → d.follow = true → r.state = .fault →
        exec (.trippedFrame bytes) s =
          .next (raise (.groupTripped g (.remote f.sender)) (raise (.groupFaultEnded g) t)))) ∧
  (∀ (s : State) (bytes : List Byte) (f : Frame) (b : Byte), OwnLoopback s bytes f → f.payload = .trip b 1 →
    exec (.trippedFrame bytes) s = .next (heardBack f s)) ∧
  ∀ (s : State) (bytes : List Byte) (f : Frame) (b k : Byte), PartnerFrame s bytes f → f.payload = .trip b k →
    k ≠ 1 → k ≠ 2 → exec (.trippedFrame bytes) s = .next (admittedState f s)

/-- A RELEASE frame for a group, from a partner or heard back by its sender: a TRIPPED group that is not satisfied and has a
basis returns to CLEAR with GROUP_RELEASED and is evaluated afresh; a TRIPPED group that is satisfied or without basis stays,
with GROUP_RELEASE_REFUSED, and with ANNOUNCE is announced again, where a request that the queue takes leaves an owed mark as it
was (log entry 13: the model's reading); every other group is left as it is, and a group number above 15 names none. -/
def Obligations.ReleaseFrameDecided : Prop :=
  ∀ (s u : State) (bytes : List Byte) (f : Frame) (b : Byte), f.payload = .trip b 2 →
    PartnerFrame s bytes f ∧ u = admittedState f s ∨ OwnLoopback s bytes f ∧ u = heardBack f s →
    (16 ≤ b.toNat → exec (.releaseFrame bytes) s = .next u) ∧
    ∀ g : Sys2Proof.Group, b.toNat = g.val →
    let d := s.groupDesc g
    let r := s.voter.groups.get g
    (d.used = false ∨ r.state ≠ .tripped → exec (.releaseFrame bytes) s = .next u) ∧
    (d.used = true → r.state = .tripped →
      (satisfied d r = false → noBasis d r = false → exec (.releaseFrame bytes) s =
        .next (evaluate g (raise (.groupReleased g f.sender) (place g { r with
          state := .clear, cause := none, confirm := .stopped, announceOwed := false, stamp := s.events.time } u)))) ∧
      ∀ why, (why = .satisfied ∧ satisfied d r = true) ∨ (why = .noBasis ∧ noBasis d r = true) →
        (d.announce = false →
          exec (.releaseFrame bytes) s = .next (raise (.groupReleaseRefused g f.sender why) u)) ∧
        (d.announce = true → ∃ t, exec (.releaseFrame bytes) s = .next t ∧
          announcedAgain g (raise (.groupReleaseRefused g f.sender why) u) t))

/-- A PRESENCE frame from another station: its digest is compared and kept; an equal digest makes the sender PRESENT with its
silence timer started, another MISMATCHED with it stopped; a new state raises STATION_STATE and re-examines the entries whose
other station is the sender, in increasing input number (log entry 10: the model's order); and an equal digest hands on the
acted pairs and then the notices as assertions. The station's own PRESENCE, heard back, leaves the roster as it is: its pairs
and notices are taken as assertions, and the background anchor is its own number. -/
def Obligations.PresenceSetsStanding : Prop :=
  (∀ (s : State) (bytes : List Byte) (f : Frame) (digest : Word) (ps : List ActedPair) (ns : List WireNotice),
    ForeignFrame s bytes f → f.payload = .presence digest ps ns →
    let l := { s.link with backgroundAnchor := f.sender, jammed := false }
    let stand (st : RosterState) (timer : Timer) : State :=
      let t := { s with
        link := l
        roster := { s.roster with
          entries := s.roster.entries.set f.sender { state := st, lastDigest := some digest, silence := timer } } }
      if (s.roster.entries.get f.sender).state = st then t
      else reexamineOthers f.sender (raise (.stationState f.sender st) t)
    (digest ≠ s.control.digest → exec (.presenceFrame bytes) s = .next (stand .mismatched .stopped)) ∧
    (digest = s.control.digest → exec (.presenceFrame bytes) s = .next
      (ns.foldl (fun t n => takeStatement n.point (stationOfByte n.owner) n.epoch true t)
        (ps.foldl (fun t x => takeStatement x.point (some f.sender) x.epoch false t)
          (stand .present (.running ((imageByte s.control.image 32).toNat * (imageByte s.control.image 33).toNat))))))) ∧
  ∀ (s : State) (bytes : List Byte) (f : Frame) (digest : Word) (ps : List ActedPair) (ns : List WireNotice),
    OwnLoopback s bytes f → f.payload = .presence digest ps ns →
    exec (.presenceFrame bytes) s = .next
      (ns.foldl (fun t n => takeStatement n.point (stationOfByte n.owner) n.epoch true t)
        (ps.foldl (fun t x => takeStatement x.point (some s.own) x.epoch false t) (heardBack f s)))

/-! ### Access and sending -/

/-- An idle event at a quiet station with no completion to come: in RUN with work offered, the station takes its class and the offset of that class, the
rotation counted from the class anchor; otherwise it does not defer. An episode ignored and the episode of the station's own
jam are over (log entry 22), and so is a loopback still owed (log entry 5: the model's reading). Carrier seen before the slot
ends the wait and touches no work. -/
def Obligations.IdleEventDefers : Prop :=
  ∀ s : State,
    (s.active = true → Free s →
      let l := { s.link with loopback := none, ignoring := false, jammed := false }
      let defer (d : Option Deferral) := exec .idleEvent s = .next { s with link := { l with deferral := d } }
      let turn (base : Nat) (anchor : Station) (n : Nat) : Prop :=
        (n : Int) = base + ((s.own.val : Int) - anchor.val - 1) % 16
      (s.control.state ≠ .run ∨ offers s = none → defer none) ∧
      (s.control.state = .run → offers s = some .urgent →
        defer (some { linkClass := .urgent, offset := s.own.val })) ∧
      (s.control.state = .run → offers s = some .normal → ∀ n, turn 16 s.link.normalAnchor n →
        defer (some { linkClass := .normal, offset := n })) ∧
      (s.control.state = .run → offers s = some .background → ∀ n, turn 32 s.link.backgroundAnchor n →
        defer (some { linkClass := .background, offset := n }))) ∧
    exec .carrierSeen s = .next { s with link := { s.link with deferral := none } }

/-- A win with the NORMAL class: a frame with the first 8 points of the publish list, each read from its mirror entry and
marked carried; an empty list sends nothing. A win with the BACKGROUND class: a PRESENCE frame is always sent, with
the station's digest, one acted pair for each point it owns in increasing number, and the notices that still stand, in
list order; the notices that no longer stand leave the list. -/
def Obligations.PointAndPresenceWins : Prop :=
  (∀ (s : State) (d : Deferral), s.control.rstAsserted = false → s.control.state = .run → Free s →
    s.link.deferral = some d → d.linkClass = .normal →
    (s.publisher.list = [] → exec .win s = .next { s with link := { s.link with deferral := none } }) ∧
    (s.publisher.list ≠ [] → s.publisher.list.Nodup → ∃ u, exec .win s = .next u ∧
      u = { sending (.point ((s.publisher.list.take 8).map (fun p =>
          { point := BitVec.ofNat 8 p.val, epoch := (s.mirror.get p).epoch, quality := (s.mirror.get p).quality,
            hit := if (s.desc p).publish = .valueOnly then 0 else hitCode (s.mirror.get p).hit,
            value := (s.mirror.get p).value }))) s with publisher := u.publisher } ∧
      u.publisher.list = s.publisher.list ∧
      (∀ p ∈ s.publisher.list.take 8, u.publisher.records.get p = { s.publisher.records.get p with
        carried := true, carriedValue := (s.mirror.get p).value, changed := false }) ∧
      ∀ p, p ∉ s.publisher.list.take 8 → u.publisher.records.get p = s.publisher.records.get p)) ∧
  (∀ (s : State) (d : Deferral), s.control.rstAsserted = false → s.control.state = .run → Free s →
    s.link.deferral = some d → d.linkClass = .background →
    let stands (n : Notice) : Bool :=
      let e := s.mirror.get n.point
      !decide (n.epoch < e.epoch) && !(n.epoch == e.epoch && e.owner != some n.owner)
    let ns := s.custody.notices.filter stands
    exec .win s = .next { sending (.presence s.control.digest
        (((List.finRange 64).filter (fun p => (s.mirror.get p).owner == some s.own)).map
          (fun p => { point := BitVec.ofNat 8 p.val, epoch := (s.mirror.get p).epoch }))
        (ns.map (fun n => { point := BitVec.ofNat 8 n.point.val, owner := BitVec.ofNat 8 n.owner.val, epoch := n.epoch })))
      s with custody := { s.custody with notices := ns } })

/-- A win with a TRIP request at the head of the urgent queue: TRIPPED is sent while the group stands TRIPPED; RELEASE is sent
while it stands TRIPPED, not satisfied and with a basis. Otherwise the request is withdrawn, a RELEASE that is refused with
GROUP_RELEASE_REFUSED naming this station, and the departure is reported. -/
def Obligations.TripWinAssembles : Prop :=
  ∀ (s : State) (d : Deferral) (g : Sys2Proof.Group) (rest : List Request), s.control.rstAsserted = false →
    s.control.state = .run → Free s → s.link.deferral = some d → d.linkClass = .urgent →
    let r := s.voter.groups.get g
    let withdrawn (t : State) : Host.Outcome State Fault Refusal :=
      .next (departure { t with link := { t.link with urgent := rest, deferral := none } })
    (s.link.urgent = .tripped g :: rest →
      (r.state = .tripped → exec .win s = .next (sending (.trip (BitVec.ofNat 8 g.val) 1) s)) ∧
      (r.state ≠ .tripped → exec .win s = withdrawn s)) ∧
    (s.link.urgent = .release g :: rest →
      (r.state ≠ .tripped → exec .win s = withdrawn s) ∧
      (r.state = .tripped →
        (satisfied (s.groupDesc g) r = true →
          exec .win s = withdrawn (raise (.groupReleaseRefused g s.own .satisfied) s)) ∧
        (noBasis (s.groupDesc g) r = true →
          exec .win s = withdrawn (raise (.groupReleaseRefused g s.own .noBasis) s)) ∧
        (satisfied (s.groupDesc g) r = false → noBasis (s.groupDesc g) r = false →
          exec .win s = .next (sending (.trip (BitVec.ofNat 8 g.val) 2) s))))

/-- A win with a custody request at the head of the urgent queue: the marked points whose test still holds are carried in
increasing point number, the others lose their mark; EPOCH_LIMIT is raised, in increasing point number, for each of them that
fails by its epoch 65535 alone (log entry 11: the model's reading) and has not been reported; with no point left the request
is withdrawn and the departure is reported. The records carry the custody content that the context's quality supplies. -/
def Obligations.CustodyWinAssembles : Prop :=
  ∀ (s : State) (d : Deferral) (r : Request) (rest : List Request), s.control.rstAsserted = false →
    s.control.state = .run → Free s → s.link.deferral = some d → d.linkClass = .urgent →
    s.link.urgent = r :: rest →
    (∀ i j c x, s.custody.table.get i = some c → s.custody.table.get j = some x → c.point = x.point → i = j) →
    let wins (k : Assembly) (payload : List Input → Payload) : Prop :=
      ∃ u, (∀ i, u.custody.table.get i = (s.custody.table.get i).map (k.entry s i)) ∧
        u = { s with custody := { s.custody with table := u.custody.table }, events := u.events } ∧
        u.events = ((k.limited s).foldl (fun t p => raise (.epochLimit p) t) s).events ∧
        (k.carried s ≠ [] → exec .win s = .next (sending (payload (k.carried s)) u)) ∧
        (k.carried s = [] → exec .win s = .next (departure
          { u with link := { s.link with urgent := rest, deferral := none } }))
    let records (is : List Input) : List CustodyRecord :=
      is.filterMap (fun i => (s.custody.table.get i).map (handover s i))
    (r = .claim → wins claimAssembly (fun is => .claim (records is))) ∧
    (r = .reclaim → wins reclaimAssembly (fun is => .reclaim
      (is.filterMap (fun i => (s.custody.table.get i).map (fun c => BitVec.ofNat 8 c.point.val))))) ∧
    (r = .yield → wins yieldAssembly (fun is => .yield (records is)))

/-- A departure: the voter's owed TRIPPED requests are offered in increasing group number, and then one request of each custody
kind that is marked, in the order CLAIM, RECLAIM, YIELD, each until the first refusal. Stated for one place freed, with owed
groups TRIPPED: the first owed group takes it, and custody takes it where no group is owed. -/
def Obligations.DepartureSharesThePlace : Prop :=
  ∀ s : State, s.link.urgent.length = 7 → s.link.urgent.Nodup →
    let owed (g : Sys2Proof.Group) : Bool := (s.voter.groups.get g).announceOwed
    let marked (f : CustodyEntry → Bool) : Prop := ∃ i c, s.custody.table.get i = some c ∧ f c = true
    let took (r : Request) (t : State) : Prop := t.link = { s.link with urgent := s.link.urgent ++ [r] }
    (∀ g, owed g = true → (∀ h, h < g → owed h = false) →
      (∀ h, owed h = true → (s.voter.groups.get h).state = .tripped ∧ Request.tripped h ∉ s.link.urgent) →
      took (.tripped g) (departure s) ∧ (departure s).custody = s.custody ∧
      (departure s).voter = { s.voter with
        groups := s.voter.groups.set g { s.voter.groups.get g with announceOwed := false } }) ∧
    ((∀ g, owed g = false) →
      (departure s).voter = s.voter ∧ (departure s).custody = s.custody ∧
      (marked CustodyEntry.claimDue → Request.claim ∉ s.link.urgent → took .claim (departure s)) ∧
      (¬ marked CustodyEntry.claimDue → marked CustodyEntry.reclaimDue → Request.reclaim ∉ s.link.urgent →
        took .reclaim (departure s)) ∧
      (¬ marked CustodyEntry.claimDue → ¬ marked CustodyEntry.reclaimDue → marked CustodyEntry.yieldDue →
        Request.yield ∉ s.link.urgent → took .yield (departure s)) ∧
      (¬ marked CustodyEntry.claimDue → ¬ marked CustodyEntry.reclaimDue → ¬ marked CustodyEntry.yieldDue →
        departure s = s))

/-- A completion, ahead of the loopback or after it (R132): the consecutive-failure count is 0, LTXEN is released where the frame
was not heard back yet, the Roster, the Publisher or the Custody Controller ends the frame it gave, and an urgent request leaves
the queue, after which the departure is reported. -/
def Obligations.CompletionEndsTheFrame : Prop :=
  ∀ (s : State) (f : Frame), Completes s f →
    let u := completed f s
    let leaves (r : Request) (t : State) : Host.Outcome State Fault Refusal :=
      .next (departure { t with link := { t.link with urgent := t.link.urgent.erase r } })
    (∀ d ps ns, f.payload = .presence d ps ns → exec .completion s = .next { u with
      roster := { s.roster with presencePending := false, firstPresence := true }
      custody := { s.custody with notices := s.custody.notices.filter (fun n => !ns.contains
        { point := BitVec.ofNat 8 n.point.val, owner := BitVec.ofNat 8 n.owner.val, epoch := n.epoch }) } }) ∧
    (∀ rs, f.payload = .point rs → exec .completion s = .next (rs.foldl (fun t r =>
      match pointOfByte r.point with
      | none => t
      | some p =>
        let x := t.publisher.records.get p
        if x.carried then { t with
          publisher := { t.publisher with
            list := if x.changed then t.publisher.list else t.publisher.list.filter (· != p)
            records := t.publisher.records.set p
              { lastPublished := x.carriedValue, refresh := .running (max 1 ((s.desc p).freshness / 2)),
                carried := false, carriedValue := none, changed := false } } }
        else t) u)) ∧
    (∀ (b : Byte) (g : Sys2Proof.Group), groupOfByte b = some g →
      (f.payload = .trip b 1 → exec .completion s = leaves (.tripped g) u) ∧
      (f.payload = .trip b 2 → exec .completion s = leaves (.release g) u)) ∧
    (∀ rs, f.payload = .claim rs → ∃ t, exec .completion s = leaves .claim t ∧
      t = { u with custody := { s.custody with table := t.custody.table } } ∧
      ∀ i, t.custody.table.get i = (s.custody.table.get i).map (fun c =>
        if rs.any (fun r => pointOfByte r.record.point == some c.point) then { c with claimDue := false } else c)) ∧
    (∀ rs, f.payload = .yield rs → ∃ t, exec .completion s = leaves .yield t ∧
      t = { u with custody := { s.custody with table := t.custody.table } } ∧
      ∀ i, t.custody.table.get i = (s.custody.table.get i).map (fun c =>
        if rs.any (fun r => pointOfByte r.record.point == some c.point) then { c with yieldDue := false } else c)) ∧
    (∀ ps, f.payload = .reclaim ps → ∃ t, exec .completion s = leaves .reclaim t ∧
      t = { u with custody := { s.custody with table := t.custody.table } } ∧
      ∀ i, t.custody.table.get i = (s.custody.table.get i).map (fun c =>
        if ps.any (fun b => pointOfByte b == some c.point) then
          { c with
            reclaimDue := false
            reclaimWait :=
              if c.role = .home ∧ otherOwner s c (s.desc c.point).standbyStation then
                .running (2 * (imageByte s.control.image 32).toNat)
              else c.reclaimWait }
        else c))

/-- A collision: the station sends the jam, both anchors are 15, the consecutive-failure count rises to at most 8, the points
of a POINT frame are carried no longer, and all other work is kept. At the end of the jam the line is released, with the
episode marked as the station's own until its end is seen (log entry 22), and a station in RUN whose count is 8 enters
ISOLATED: LINK_ISOLATED, the isolation hold starts, the presence timer stops and a deferral ends. At the end of the hold
LINK_RESTORED is raised, and the station enters LISTEN with the rest of its state kept. The jam that a RESTART sends isolates
nothing. -/
def Obligations.CollisionAndIsolation : Prop :=
  (∀ (s : State) (f : Frame), s.link.transmission = .frame f →
    let u := { s with link := { s.link with
      transmission := .jam, normalAnchor := 15, backgroundAnchor := 15, failures := min (s.link.failures + 1) 8 } }
    ((∀ rs, f.payload ≠ .point rs) → exec .collision s = .next u) ∧
    (∀ rs, f.payload = .point rs → ∃ t, exec .collision s = .next t ∧
      t = { u with publisher := { s.publisher with records := t.publisher.records } } ∧
      ∀ p, t.publisher.records.get p =
        if rs.any (fun r => pointOfByte r.point == some p) then
          { s.publisher.records.get p with carried := false, carriedValue := none, changed := false }
        else s.publisher.records.get p)) ∧
  (∀ s : State, s.link.transmission = .jam ∨ s.link.transmission = .resetJam →
    let l := { s.link with
      transmission := .idle, ltxen := false, jammed := s.link.jammed || (s.link.transmission == .jam) }
    (s.link.transmission = .resetJam ∨ s.control.state ≠ .run ∨ s.link.failures ≠ 8 →
      exec .jamEnd s = .next { s with link := l }) ∧
    (s.link.transmission = .jam → s.control.state = .run → s.link.failures = 8 →
      exec .jamEnd s = .next { s with
        control := { s.control with
          state := .isolated
          isolation := .running (2 * ((imageByte s.control.image 32).toNat * (imageByte s.control.image 33).toNat)) }
        roster := { s.roster with presenceTimer := .stopped }
        link := { l with deferral := none }
        events := (raise .linkIsolated s).events })) ∧
  ∀ s : State, s.control.rstAsserted = false → s.control.state = .isolated → s.control.isolation = .running 0 →
    exec .isolationHoldExpiry s = .next { s with
      control := { s.control with
        state := .listen
        isolation := .stopped
        listen := .running ((imageByte s.control.image 32).toNat * (imageByte s.control.image 33).toNat) }
      events := (raise .linkRestored s).events }

/-! ### The management port -/

/-- WRITE-IMAGE and READ-IMAGE by state and range; a command byte that names no command; a partial command, which changes
nothing and is not answered: MCSn has risen, and MISO is at high impedance. -/
def Obligations.ImageAndPartialCommands : Prop :=
  ∀ s : State, Ready s → ImageLaw s →
    (∀ (off : Half) (data : List Byte),
      (s.control.state = .validating → exec (.writeImage off data) s = .next (answered [0x01] s)) ∧
      (s.control.state.runtime = true → exec (.writeImage off data) s = .next (answered [0x02] s)) ∧
      (s.control.state = .config → data = [] ∨ 1344 < off.toNat + data.length →
        exec (.writeImage off data) s = .next (answered [0x03] s)) ∧
      (s.control.state = .config → data ≠ [] → off.toNat + data.length ≤ 1344 →
        ∃ m, exec (.writeImage off data) s = .next (answered [0x00] { s with
            control := { s.control with image := m, imagePresent := true } }) ∧
          ∀ a, Memory.read m a = if off.toNat ≤ a ∧ a < off.toNat + data.length then data.getD (a - off.toNat) 0
            else Memory.read s.control.image a)) ∧
    (∀ off n : Half,
      (n = 0 ∨ 1344 < off.toNat + n.toNat → exec (.readImage off n) s = .next (answered [0x03] s)) ∧
      (n ≠ 0 → off.toNat + n.toNat ≤ 1344 → exec (.readImage off n) s = .next (answered
        (0x00 :: (List.range n.toNat).map (fun k => Memory.read s.control.image (off.toNat + k))) s))) ∧
    (∀ b : Byte, b ∉ [0x21, 0x22, 0x30, 0x31, 0x40, 0x41, 0x42, 0x43, 0x44, 0x50, 0x51, 0x52] →
      exec (.unknownCommandByte b) s = .next (answered [0x03] s)) ∧
    exec .partialCommandDiscarded s = .next { s with port := { s.port with miso := .highImpedance } }

/-- READ-STATUS, READ-POINT, READ-GROUP and READ-ROSTER: the items of R169, R23, R63 and R124 in the layouts of R178, and,
for READ-STATUS, the rejected-frame count cleared after the items are taken; and the codes of R178 for the items. That an item
of one flag (image present, overflow flag, last digest present) is 0x01 for yes and 0x00 for no is the model's choice (log
entry 21). -/
def Obligations.ReadCommands : Prop :=
  ([StationState.config, .validating, .listen, .run, .isolated].map stationStateCode = [0, 1, 2, 3, 4] ∧
    (∀ (p : Point) (g : Sys2Proof.Group) (i : Input),
      let errors : List StartError := [.none, .aborted, .noImage, .badFormat, .badStation, .badLink, .badPoint p,
        .badGroup g, .badInput i, .badInputPoint p]
      errors.map startErrorCode = [0, 1, 2, 3, 4, 5, 6, 7, 8, 8] ∧
      errors.map (fun e => (startErrorSubject e).toNat) =
        [255, 255, 255, 255, 255, 255, p.val, g.val, i.val, 128 + p.val]) ∧
    [Quality.none, .good, .faulted, .stale].map qualityByte = [0, 1, 2, 3] ∧
    [Hit.none, .clear, .side .high, .side .low, .side .inside].map hitByte = [0, 1, 2, 3, 4] ∧
    [Role.idle, .shadow, .acting].map roleByte = [0, 1, 2] ∧
    [GroupState.clear, .arming, .tripped, .fault].map groupStateCode = [0, 1, 2, 3] ∧
    (∀ a : Station, [none, some Cause.localTrip, some (.remote a)].map causeCode = [0, 1, 2]) ∧
    [RosterState.absent, .present, .silent, .mismatched, .self].map rosterStateCode = [0, 1, 2, 3, 4]) ∧
  ∀ s : State, Ready s →
    let b (n : Nat) : Byte := BitVec.ofNat 8 n
    let h (n : Nat) : List Byte := Half.bytes (BitVec.ofNat 16 n)
    let station (a : Option Station) : Byte := match a with
      | some a => b a.val
      | none => 0xFF
    exec .readStatus s = .next (answered
      ([0x00, stationStateCode s.control.state, startErrorCode s.control.startError,
        startErrorSubject s.control.startError, if s.control.imagePresent then 1 else 0] ++ h s.link.rejected ++
        [b s.link.failures, b s.events.records.length, if s.events.overflow then 1 else 0] ++ Word.bytes s.events.time)
      { s with link := { s.link with rejected := 0 } }) ∧
    (s.control.state.runtime = false → ∀ x : Byte,
      exec (.readPoint x) s = .next (answered [0x02] s) ∧ exec (.readGroup x) s = .next (answered [0x02] s) ∧
      exec (.readRoster x) s = .next (answered [0x02] s)) ∧
    (s.control.state.runtime = true → ∀ x : Byte,
      (64 ≤ x.toNat → exec (.readPoint x) s = .next (answered [0x03] s)) ∧
      (16 ≤ x.toNat → exec (.readGroup x) s = .next (answered [0x03] s) ∧
        exec (.readRoster x) s = .next (answered [0x03] s)) ∧
      (∀ p : Point, x.toNat = p.val →
        let e := s.mirror.get p
        let role (k : Byte) : Prop := (k = 0 ∧ ∀ i, (s.contexts.get i).point ≠ some p) ∨
          ∃ i, (s.contexts.get i).point = some p ∧ (∀ j, j < i → (s.contexts.get j).point ≠ some p) ∧
            k = roleByte (s.contexts.get i).role
        ∀ k, role k → exec (.readPoint x) s = .next (answered
          ([0x00, (if e.inUse then 1 else 0) ||| (if e.value.isSome then 2 else 0), station e.owner] ++
            Half.bytes e.epoch ++ [qualityByte e.quality, hitByte e.hit] ++ Half.bytes (e.value.getD 0) ++ h e.age ++
            [(if e.latch.high then 1 else 0) ||| (if e.latch.low then 2 else 0) ||| (if e.latch.inside then 4 else 0), k])
          s)) ∧
      (∀ g : Sys2Proof.Group, x.toNat = g.val →
        let d := s.groupDesc g
        let r := s.voter.groups.get g
        let n := d.memberCount - r.excluded
        exec (.readGroup x) s = .next (answered
          ([0x00, groupStateCode r.state, causeCode r.cause,
            station (match r.cause with
              | some (.remote a) => some a
              | some .localTrip => none
              | none => none),
            b r.hitVotes, b r.clearVotes, b r.excluded, if d.used then b (min d.k n) else 0,
            (if d.used ∧ 0 < n ∧ min d.k n ≤ r.hitVotes then 1 else 0) ||| (if d.used ∧ n = 0 then 2 else 0) |||
              (if r.announceOwed then 4 else 0)] ++
            h (if r.state = .arming then r.confirm.left else 0) ++ Word.bytes r.stamp) s)) ∧
      ∀ a : Station, x.toNat = a.val →
        let r := s.roster.entries.get a
        exec (.readRoster x) s = .next (answered
          ([0x00, rosterStateCode r.state, if r.lastDigest.isSome then 1 else 0] ++ Word.bytes (r.lastDigest.getD 0) ++
            Word.bytes s.control.digest ++ h (if r.state = .present then r.silence.left else 0)) s))

/-- RELEASE, by the checks of R105 in order. -/
def Obligations.ReleaseCommand : Prop :=
  ∀ (s : State) (x : Byte), Ready s →
    (s.control.state ≠ .run → exec (.release x) s = .next (answered [0x02] s)) ∧
    (s.control.state = .run →
      (16 ≤ x.toNat → exec (.release x) s = .next (answered [0x03] s)) ∧
      ∀ g : Sys2Proof.Group, x.toNat = g.val →
        let d := s.groupDesc g
        let r := s.voter.groups.get g
        let q := s.link.urgent
        (r.state ≠ .tripped → exec (.release x) s = .next (answered [0x04, 0x02] s)) ∧
        (r.state = .tripped →
          (satisfied d r = true → exec (.release x) s = .next (answered [0x04, 0x03] s)) ∧
          (noBasis d r = true → exec (.release x) s = .next (answered [0x04, 0x04] s)) ∧
          (satisfied d r = false → noBasis d r = false →
            (Request.release g ∈ q → exec (.release x) s = .next (answered [0x00] s)) ∧
            (Request.release g ∉ q → q.length < 8 → exec (.release x) s = .next (answered [0x00]
              { s with link := { s.link with urgent := q ++ [.release g] } })) ∧
            (Request.release g ∉ q → 8 ≤ q.length → exec (.release x) s = .next (answered [0x01] s)))))

/-! ### Layouts -/

/-- A frame's bytes, sent and received, are read back as the frame, when its counts fit (R129, check 3) and its hit and
candidate codes are of any value. The half-cells of a frame, between stretches of the idle level of which the last is quiet,
are taken as one episode, a frame with these bytes; cut by a jam it is a jam, and cut short it is a truncated frame. A
transmitter whose every bit agrees completes, and one that finds a bit that differs collides and sends the jam from the next
bit time. The bits a host shifts in for a command, most significant first, are decoded as that command, bits after it ignored;
MISO is at high impedance under RSTn and while MCSn is high, and otherwise carries 0x00 for the command and then the response,
most significant bit first. -/
def Obligations.LayoutsReadBack : Prop :=
  (∀ f : Frame, f.payload.countsFit = true → parseFrame f.bytes = some f) ∧
  (∀ (bytes : List Byte) (before quiet n : Nat), 8 ≤ quiet →
    let line (xs : List Symbol) : List Episode :=
      receivedEpisodes (List.replicate before true ++ (cells xs ++ List.replicate quiet true))
    line (lineSymbols bytes) = [.frame bytes] ∧
    line ((lineSymbols bytes).take n ++ jamSymbols) = [.jam] ∧
    (2 ≤ n → n < (lineSymbols bytes).length → line ((lineSymbols bytes).take n) = [.truncated])) ∧
  (∀ (f : Frame) (heard : List Symbol),
    let t := Transmission.frame f
    (heard.take t.symbols.length = t.symbols →
      t.endCommand heard = some .completion ∧ drivenSymbols t.symbols heard = t.symbols) ∧
    ∀ (same others : List Symbol) (x y : Symbol) (rest : List Symbol), x ≠ y → t.symbols = same ++ x :: rest →
      heard = same ++ y :: others →
      t.endCommand heard = some .collision ∧ drivenSymbols t.symbols heard = same ++ x :: jamSymbols) ∧
  (∀ (i : Instr) (bytes : List Byte) (more : List Bool) (sfsHigh : Bool), i.wf = true → (∀ b, i = .restart b → b = sfsHigh) →
    mosiBytes i = some bytes → decodeMosiBits sfsHigh (bytes.flatMap byteBits ++ more) = i) ∧
  ∀ (s : State) (shiftedIn n : Nat),
    s.misoLevel true shiftedIn n = none ∧
    (s.control.rstAsserted = true → ∀ mcsnHigh, s.misoLevel mcsnHigh shiftedIn n = none) ∧
    (Ready s →
      (n < 8 * shiftedIn → s.misoLevel false shiftedIn n = some false) ∧
      ∀ (bytes : List Byte) (k : Nat), s.port.miso = .response bytes → n = 8 * shiftedIn + k →
        s.misoLevel false shiftedIn n = some ((bytes.flatMap byteBits).getD k false))

/-! ### Laws of the device -/

/-- Every step keeps the law of the urgent queue, of the event queue and ATTN, of the notice list, of the saturating counts, of
the image store and of the local time. -/
def Obligations.QueueLawsKept : Prop :=
  Kept UrgentLaw ∧ Kept EventLaw ∧ Kept NoticeLaw ∧ Kept CountLaw ∧ Kept ImageLaw ∧ Kept TimeLaw

/-- Every step keeps the laws of the voter: the trip lines follow the group records; the confirm timer, the cause and the owed
mark go with the state; the counts describe the mirror; and the state stands as the counts have it. -/
def Obligations.VoterLawsKept : Prop := Kept LineLaw ∧ Kept GroupLaw ∧ Kept VoteLaw ∧ Kept StandingLaw

/-- Every step keeps the laws of ownership: each in-use point has its home or its standby as owner, the roles follow the
mirror, the custody table follows the image, the publish list holds own points once each, and SELF stands at the own number. -/
def Obligations.OwnershipLawsKept : Prop :=
  Kept OwnerLaw ∧ Kept RoleLaw ∧ Kept CustodyLaw ∧ Kept PublishLaw ∧ Kept RosterLaw

/-- Every step keeps the content of contexts and entries within what the evaluation rules and the publish modes allow, and
keeps the line law: LTXEN while sending, frames in RUN alone, and PRESENCE alone until the first has completed. -/
def Obligations.ContentAndSendingLawsKept : Prop := Kept ContextLaw ∧ Kept ContentLaw ∧ Kept FrameLaw

/-- Every command answers a next state (log entry 1: the model's reading). What no command does: touch the commands that wait
(log entry 19: the queue is the model's own); lower an epoch within one runtime; change the image outside CONFIG, but
for a hardware reset; start a frame outside RUN; or take a group out of TRIPPED within one runtime, but for a RELEASE frame. -/
def Obligations.NoCommandBreaks : Prop :=
  ∀ (c : Instr) (s : State), ∃ t, exec c s = .next t ∧ t.pending = s.pending ∧
    (s.active = true → t.active = true → ∀ p, (s.mirror.get p).epoch ≤ (t.mirror.get p).epoch) ∧
    (s.control.state ≠ .config → (∀ a b, c ≠ .powerUp a b) → c ≠ .rstnAsserted →
      t.control.image = s.control.image) ∧
    (∀ f, t.link.transmission = .frame f → s.link.transmission ≠ .frame f →
      s.control.state = .run ∧ c = .win) ∧
    (∀ g, s.active = true → t.active = true → (s.voter.groups.get g).state = .tripped →
      (t.voter.groups.get g).state = .tripped ∧ (t.voter.groups.get g).cause = (s.voter.groups.get g).cause ∧
        (t.voter.groups.get g).stamp = (s.voter.groups.get g).stamp ∨
      ∃ bytes f b, c ∈ frameCommands bytes ∧ parseFrame bytes = some f ∧ f.payload = .trip b 2 ∧
        groupOfByte b = some g)
end

