-- ==== Sys2Proof/Laws/State.lean ====
section
/-! SUPPORT. One lemma per field for each update of the state, so that no proof unfolds an update. -/

namespace Sys2Proof.Machine.State

variable (s : State)

@[simp] theorem setEntry_control (p : Point) (e : MirrorEntry) : (s.setEntry p e).control = s.control := rfl
@[simp] theorem setEntry_sample (p : Point) (e : MirrorEntry) : (s.setEntry p e).sample = s.sample := rfl
@[simp] theorem setEntry_contexts (p : Point) (e : MirrorEntry) : (s.setEntry p e).contexts = s.contexts := rfl
@[simp] theorem setEntry_mirror (p : Point) (e : MirrorEntry) : (s.setEntry p e).mirror = s.mirror.set p e := rfl
@[simp] theorem setEntry_voter (p : Point) (e : MirrorEntry) : (s.setEntry p e).voter = s.voter := rfl
@[simp] theorem setEntry_custody (p : Point) (e : MirrorEntry) : (s.setEntry p e).custody = s.custody := rfl
@[simp] theorem setEntry_publisher (p : Point) (e : MirrorEntry) : (s.setEntry p e).publisher = s.publisher := rfl
@[simp] theorem setEntry_roster (p : Point) (e : MirrorEntry) : (s.setEntry p e).roster = s.roster := rfl
@[simp] theorem setEntry_link (p : Point) (e : MirrorEntry) : (s.setEntry p e).link = s.link := rfl
@[simp] theorem setEntry_events (p : Point) (e : MirrorEntry) : (s.setEntry p e).events = s.events := rfl
@[simp] theorem setEntry_port (p : Point) (e : MirrorEntry) : (s.setEntry p e).port = s.port := rfl
@[simp] theorem setEntry_pending (p : Point) (e : MirrorEntry) : (s.setEntry p e).pending = s.pending := rfl

@[simp] theorem setContext_control (i : Input) (c : Context) : (s.setContext i c).control = s.control := rfl
@[simp] theorem setContext_sample (i : Input) (c : Context) : (s.setContext i c).sample = s.sample := rfl
@[simp] theorem setContext_contexts (i : Input) (c : Context) : (s.setContext i c).contexts = s.contexts.set i c := rfl
@[simp] theorem setContext_mirror (i : Input) (c : Context) : (s.setContext i c).mirror = s.mirror := rfl
@[simp] theorem setContext_voter (i : Input) (c : Context) : (s.setContext i c).voter = s.voter := rfl
@[simp] theorem setContext_custody (i : Input) (c : Context) : (s.setContext i c).custody = s.custody := rfl
@[simp] theorem setContext_publisher (i : Input) (c : Context) : (s.setContext i c).publisher = s.publisher := rfl
@[simp] theorem setContext_roster (i : Input) (c : Context) : (s.setContext i c).roster = s.roster := rfl
@[simp] theorem setContext_link (i : Input) (c : Context) : (s.setContext i c).link = s.link := rfl
@[simp] theorem setContext_events (i : Input) (c : Context) : (s.setContext i c).events = s.events := rfl
@[simp] theorem setContext_port (i : Input) (c : Context) : (s.setContext i c).port = s.port := rfl
@[simp] theorem setContext_pending (i : Input) (c : Context) : (s.setContext i c).pending = s.pending := rfl

@[simp] theorem setGroup_control (g : Group) (r : GroupRecord) : (s.setGroup g r).control = s.control := rfl
@[simp] theorem setGroup_sample (g : Group) (r : GroupRecord) : (s.setGroup g r).sample = s.sample := rfl
@[simp] theorem setGroup_contexts (g : Group) (r : GroupRecord) : (s.setGroup g r).contexts = s.contexts := rfl
@[simp] theorem setGroup_mirror (g : Group) (r : GroupRecord) : (s.setGroup g r).mirror = s.mirror := rfl
@[simp] theorem setGroup_voter (g : Group) (r : GroupRecord) : (s.setGroup g r).voter = { s.voter with groups := s.voter.groups.set g r } := rfl
@[simp] theorem setGroup_custody (g : Group) (r : GroupRecord) : (s.setGroup g r).custody = s.custody := rfl
@[simp] theorem setGroup_publisher (g : Group) (r : GroupRecord) : (s.setGroup g r).publisher = s.publisher := rfl
@[simp] theorem setGroup_roster (g : Group) (r : GroupRecord) : (s.setGroup g r).roster = s.roster := rfl
@[simp] theorem setGroup_link (g : Group) (r : GroupRecord) : (s.setGroup g r).link = s.link := rfl
@[simp] theorem setGroup_events (g : Group) (r : GroupRecord) : (s.setGroup g r).events = s.events := rfl
@[simp] theorem setGroup_port (g : Group) (r : GroupRecord) : (s.setGroup g r).port = s.port := rfl
@[simp] theorem setGroup_pending (g : Group) (r : GroupRecord) : (s.setGroup g r).pending = s.pending := rfl

@[simp] theorem setCustody_control (i : Input) (c : CustodyEntry) : (s.setCustody i c).control = s.control := rfl
@[simp] theorem setCustody_sample (i : Input) (c : CustodyEntry) : (s.setCustody i c).sample = s.sample := rfl
@[simp] theorem setCustody_contexts (i : Input) (c : CustodyEntry) : (s.setCustody i c).contexts = s.contexts := rfl
@[simp] theorem setCustody_mirror (i : Input) (c : CustodyEntry) : (s.setCustody i c).mirror = s.mirror := rfl
@[simp] theorem setCustody_voter (i : Input) (c : CustodyEntry) : (s.setCustody i c).voter = s.voter := rfl
@[simp] theorem setCustody_custody (i : Input) (c : CustodyEntry) : (s.setCustody i c).custody = { s.custody with table := s.custody.table.set i (some c) } := rfl
@[simp] theorem setCustody_publisher (i : Input) (c : CustodyEntry) : (s.setCustody i c).publisher = s.publisher := rfl
@[simp] theorem setCustody_roster (i : Input) (c : CustodyEntry) : (s.setCustody i c).roster = s.roster := rfl
@[simp] theorem setCustody_link (i : Input) (c : CustodyEntry) : (s.setCustody i c).link = s.link := rfl
@[simp] theorem setCustody_events (i : Input) (c : CustodyEntry) : (s.setCustody i c).events = s.events := rfl
@[simp] theorem setCustody_port (i : Input) (c : CustodyEntry) : (s.setCustody i c).port = s.port := rfl
@[simp] theorem setCustody_pending (i : Input) (c : CustodyEntry) : (s.setCustody i c).pending = s.pending := rfl

@[simp] theorem withTable_control (t : Table 8 (Option CustodyEntry)) : (s.withTable t).control = s.control := rfl
@[simp] theorem withTable_sample (t : Table 8 (Option CustodyEntry)) : (s.withTable t).sample = s.sample := rfl
@[simp] theorem withTable_contexts (t : Table 8 (Option CustodyEntry)) : (s.withTable t).contexts = s.contexts := rfl
@[simp] theorem withTable_mirror (t : Table 8 (Option CustodyEntry)) : (s.withTable t).mirror = s.mirror := rfl
@[simp] theorem withTable_voter (t : Table 8 (Option CustodyEntry)) : (s.withTable t).voter = s.voter := rfl
@[simp] theorem withTable_custody (t : Table 8 (Option CustodyEntry)) : (s.withTable t).custody = { s.custody with table := t } := rfl
@[simp] theorem withTable_publisher (t : Table 8 (Option CustodyEntry)) : (s.withTable t).publisher = s.publisher := rfl
@[simp] theorem withTable_roster (t : Table 8 (Option CustodyEntry)) : (s.withTable t).roster = s.roster := rfl
@[simp] theorem withTable_link (t : Table 8 (Option CustodyEntry)) : (s.withTable t).link = s.link := rfl
@[simp] theorem withTable_events (t : Table 8 (Option CustodyEntry)) : (s.withTable t).events = s.events := rfl
@[simp] theorem withTable_port (t : Table 8 (Option CustodyEntry)) : (s.withTable t).port = s.port := rfl
@[simp] theorem withTable_pending (t : Table 8 (Option CustodyEntry)) : (s.withTable t).pending = s.pending := rfl

@[simp] theorem withNotices_control (l : List Notice) : (s.withNotices l).control = s.control := rfl
@[simp] theorem withNotices_sample (l : List Notice) : (s.withNotices l).sample = s.sample := rfl
@[simp] theorem withNotices_contexts (l : List Notice) : (s.withNotices l).contexts = s.contexts := rfl
@[simp] theorem withNotices_mirror (l : List Notice) : (s.withNotices l).mirror = s.mirror := rfl
@[simp] theorem withNotices_voter (l : List Notice) : (s.withNotices l).voter = s.voter := rfl
@[simp] theorem withNotices_custody (l : List Notice) : (s.withNotices l).custody = { s.custody with notices := l } := rfl
@[simp] theorem withNotices_publisher (l : List Notice) : (s.withNotices l).publisher = s.publisher := rfl
@[simp] theorem withNotices_roster (l : List Notice) : (s.withNotices l).roster = s.roster := rfl
@[simp] theorem withNotices_link (l : List Notice) : (s.withNotices l).link = s.link := rfl
@[simp] theorem withNotices_events (l : List Notice) : (s.withNotices l).events = s.events := rfl
@[simp] theorem withNotices_port (l : List Notice) : (s.withNotices l).port = s.port := rfl
@[simp] theorem withNotices_pending (l : List Notice) : (s.withNotices l).pending = s.pending := rfl

@[simp] theorem withPublishList_control (l : List Point) : (s.withPublishList l).control = s.control := rfl
@[simp] theorem withPublishList_sample (l : List Point) : (s.withPublishList l).sample = s.sample := rfl
@[simp] theorem withPublishList_contexts (l : List Point) : (s.withPublishList l).contexts = s.contexts := rfl
@[simp] theorem withPublishList_mirror (l : List Point) : (s.withPublishList l).mirror = s.mirror := rfl
@[simp] theorem withPublishList_voter (l : List Point) : (s.withPublishList l).voter = s.voter := rfl
@[simp] theorem withPublishList_custody (l : List Point) : (s.withPublishList l).custody = s.custody := rfl
@[simp] theorem withPublishList_publisher (l : List Point) : (s.withPublishList l).publisher = { s.publisher with list := l } := rfl
@[simp] theorem withPublishList_roster (l : List Point) : (s.withPublishList l).roster = s.roster := rfl
@[simp] theorem withPublishList_link (l : List Point) : (s.withPublishList l).link = s.link := rfl
@[simp] theorem withPublishList_events (l : List Point) : (s.withPublishList l).events = s.events := rfl
@[simp] theorem withPublishList_port (l : List Point) : (s.withPublishList l).port = s.port := rfl
@[simp] theorem withPublishList_pending (l : List Point) : (s.withPublishList l).pending = s.pending := rfl

@[simp] theorem setPub_control (p : Point) (r : PubRecord) : (s.setPub p r).control = s.control := rfl
@[simp] theorem setPub_sample (p : Point) (r : PubRecord) : (s.setPub p r).sample = s.sample := rfl
@[simp] theorem setPub_contexts (p : Point) (r : PubRecord) : (s.setPub p r).contexts = s.contexts := rfl
@[simp] theorem setPub_mirror (p : Point) (r : PubRecord) : (s.setPub p r).mirror = s.mirror := rfl
@[simp] theorem setPub_voter (p : Point) (r : PubRecord) : (s.setPub p r).voter = s.voter := rfl
@[simp] theorem setPub_custody (p : Point) (r : PubRecord) : (s.setPub p r).custody = s.custody := rfl
@[simp] theorem setPub_publisher (p : Point) (r : PubRecord) : (s.setPub p r).publisher = { s.publisher with records := s.publisher.records.set p r } := rfl
@[simp] theorem setPub_roster (p : Point) (r : PubRecord) : (s.setPub p r).roster = s.roster := rfl
@[simp] theorem setPub_link (p : Point) (r : PubRecord) : (s.setPub p r).link = s.link := rfl
@[simp] theorem setPub_events (p : Point) (r : PubRecord) : (s.setPub p r).events = s.events := rfl
@[simp] theorem setPub_port (p : Point) (r : PubRecord) : (s.setPub p r).port = s.port := rfl
@[simp] theorem setPub_pending (p : Point) (r : PubRecord) : (s.setPub p r).pending = s.pending := rfl

@[simp] theorem setRoster_control (a : Station) (r : RosterEntry) : (s.setRoster a r).control = s.control := rfl
@[simp] theorem setRoster_sample (a : Station) (r : RosterEntry) : (s.setRoster a r).sample = s.sample := rfl
@[simp] theorem setRoster_contexts (a : Station) (r : RosterEntry) : (s.setRoster a r).contexts = s.contexts := rfl
@[simp] theorem setRoster_mirror (a : Station) (r : RosterEntry) : (s.setRoster a r).mirror = s.mirror := rfl
@[simp] theorem setRoster_voter (a : Station) (r : RosterEntry) : (s.setRoster a r).voter = s.voter := rfl
@[simp] theorem setRoster_custody (a : Station) (r : RosterEntry) : (s.setRoster a r).custody = s.custody := rfl
@[simp] theorem setRoster_publisher (a : Station) (r : RosterEntry) : (s.setRoster a r).publisher = s.publisher := rfl
@[simp] theorem setRoster_roster (a : Station) (r : RosterEntry) : (s.setRoster a r).roster = { s.roster with entries := s.roster.entries.set a r } := rfl
@[simp] theorem setRoster_link (a : Station) (r : RosterEntry) : (s.setRoster a r).link = s.link := rfl
@[simp] theorem setRoster_events (a : Station) (r : RosterEntry) : (s.setRoster a r).events = s.events := rfl
@[simp] theorem setRoster_port (a : Station) (r : RosterEntry) : (s.setRoster a r).port = s.port := rfl
@[simp] theorem setRoster_pending (a : Station) (r : RosterEntry) : (s.setRoster a r).pending = s.pending := rfl

@[simp] theorem withUrgent_control (q : List Request) : (s.withUrgent q).control = s.control := rfl
@[simp] theorem withUrgent_sample (q : List Request) : (s.withUrgent q).sample = s.sample := rfl
@[simp] theorem withUrgent_contexts (q : List Request) : (s.withUrgent q).contexts = s.contexts := rfl
@[simp] theorem withUrgent_mirror (q : List Request) : (s.withUrgent q).mirror = s.mirror := rfl
@[simp] theorem withUrgent_voter (q : List Request) : (s.withUrgent q).voter = s.voter := rfl
@[simp] theorem withUrgent_custody (q : List Request) : (s.withUrgent q).custody = s.custody := rfl
@[simp] theorem withUrgent_publisher (q : List Request) : (s.withUrgent q).publisher = s.publisher := rfl
@[simp] theorem withUrgent_roster (q : List Request) : (s.withUrgent q).roster = s.roster := rfl
@[simp] theorem withUrgent_link (q : List Request) : (s.withUrgent q).link = { s.link with urgent := q } := rfl
@[simp] theorem withUrgent_events (q : List Request) : (s.withUrgent q).events = s.events := rfl
@[simp] theorem withUrgent_port (q : List Request) : (s.withUrgent q).port = s.port := rfl
@[simp] theorem withUrgent_pending (q : List Request) : (s.withUrgent q).pending = s.pending := rfl

@[simp] theorem withDeferral_control (d : Option Deferral) : (s.withDeferral d).control = s.control := rfl
@[simp] theorem withDeferral_sample (d : Option Deferral) : (s.withDeferral d).sample = s.sample := rfl
@[simp] theorem withDeferral_contexts (d : Option Deferral) : (s.withDeferral d).contexts = s.contexts := rfl
@[simp] theorem withDeferral_mirror (d : Option Deferral) : (s.withDeferral d).mirror = s.mirror := rfl
@[simp] theorem withDeferral_voter (d : Option Deferral) : (s.withDeferral d).voter = s.voter := rfl
@[simp] theorem withDeferral_custody (d : Option Deferral) : (s.withDeferral d).custody = s.custody := rfl
@[simp] theorem withDeferral_publisher (d : Option Deferral) : (s.withDeferral d).publisher = s.publisher := rfl
@[simp] theorem withDeferral_roster (d : Option Deferral) : (s.withDeferral d).roster = s.roster := rfl
@[simp] theorem withDeferral_link (d : Option Deferral) : (s.withDeferral d).link = { s.link with deferral := d } := rfl
@[simp] theorem withDeferral_events (d : Option Deferral) : (s.withDeferral d).events = s.events := rfl
@[simp] theorem withDeferral_port (d : Option Deferral) : (s.withDeferral d).port = s.port := rfl
@[simp] theorem withDeferral_pending (d : Option Deferral) : (s.withDeferral d).pending = s.pending := rfl

@[simp] theorem answer_control (bytes : List Byte) : (s.answer bytes).control = s.control := rfl
@[simp] theorem answer_sample (bytes : List Byte) : (s.answer bytes).sample = s.sample := rfl
@[simp] theorem answer_contexts (bytes : List Byte) : (s.answer bytes).contexts = s.contexts := rfl
@[simp] theorem answer_mirror (bytes : List Byte) : (s.answer bytes).mirror = s.mirror := rfl
@[simp] theorem answer_voter (bytes : List Byte) : (s.answer bytes).voter = s.voter := rfl
@[simp] theorem answer_custody (bytes : List Byte) : (s.answer bytes).custody = s.custody := rfl
@[simp] theorem answer_publisher (bytes : List Byte) : (s.answer bytes).publisher = s.publisher := rfl
@[simp] theorem answer_roster (bytes : List Byte) : (s.answer bytes).roster = s.roster := rfl
@[simp] theorem answer_link (bytes : List Byte) : (s.answer bytes).link = s.link := rfl
@[simp] theorem answer_events (bytes : List Byte) : (s.answer bytes).events = s.events := rfl
@[simp] theorem answer_port (bytes : List Byte) : (s.answer bytes).port = { s.port with miso := .response bytes } := rfl
@[simp] theorem answer_pending (bytes : List Byte) : (s.answer bytes).pending = s.pending := rfl

@[simp] theorem mapBound_control (p : Point) (f : Context → Context) : (s.mapBound p f).control = s.control := rfl
@[simp] theorem mapBound_sample (p : Point) (f : Context → Context) : (s.mapBound p f).sample = s.sample := rfl
@[simp] theorem mapBound_contexts (p : Point) (f : Context → Context) : (s.mapBound p f).contexts = s.contexts.map (fun c => if c.point = some p then f c else c) := rfl
@[simp] theorem mapBound_mirror (p : Point) (f : Context → Context) : (s.mapBound p f).mirror = s.mirror := rfl
@[simp] theorem mapBound_voter (p : Point) (f : Context → Context) : (s.mapBound p f).voter = s.voter := rfl
@[simp] theorem mapBound_custody (p : Point) (f : Context → Context) : (s.mapBound p f).custody = s.custody := rfl
@[simp] theorem mapBound_publisher (p : Point) (f : Context → Context) : (s.mapBound p f).publisher = s.publisher := rfl
@[simp] theorem mapBound_roster (p : Point) (f : Context → Context) : (s.mapBound p f).roster = s.roster := rfl
@[simp] theorem mapBound_link (p : Point) (f : Context → Context) : (s.mapBound p f).link = s.link := rfl
@[simp] theorem mapBound_events (p : Point) (f : Context → Context) : (s.mapBound p f).events = s.events := rfl
@[simp] theorem mapBound_port (p : Point) (f : Context → Context) : (s.mapBound p f).port = s.port := rfl
@[simp] theorem mapBound_pending (p : Point) (f : Context → Context) : (s.mapBound p f).pending = s.pending := rfl

@[simp] theorem mapCustody_control (p : Point) (f : CustodyEntry → CustodyEntry) : (s.mapCustody p f).control = s.control := rfl
@[simp] theorem mapCustody_sample (p : Point) (f : CustodyEntry → CustodyEntry) : (s.mapCustody p f).sample = s.sample := rfl
@[simp] theorem mapCustody_contexts (p : Point) (f : CustodyEntry → CustodyEntry) : (s.mapCustody p f).contexts = s.contexts := rfl
@[simp] theorem mapCustody_mirror (p : Point) (f : CustodyEntry → CustodyEntry) : (s.mapCustody p f).mirror = s.mirror := rfl
@[simp] theorem mapCustody_voter (p : Point) (f : CustodyEntry → CustodyEntry) : (s.mapCustody p f).voter = s.voter := rfl
@[simp] theorem mapCustody_custody (p : Point) (f : CustodyEntry → CustodyEntry) : (s.mapCustody p f).custody = { s.custody with table := s.custody.table.map (fun o => o.map (fun c => if c.point = p then f c else c)) } := rfl
@[simp] theorem mapCustody_publisher (p : Point) (f : CustodyEntry → CustodyEntry) : (s.mapCustody p f).publisher = s.publisher := rfl
@[simp] theorem mapCustody_roster (p : Point) (f : CustodyEntry → CustodyEntry) : (s.mapCustody p f).roster = s.roster := rfl
@[simp] theorem mapCustody_link (p : Point) (f : CustodyEntry → CustodyEntry) : (s.mapCustody p f).link = s.link := rfl
@[simp] theorem mapCustody_events (p : Point) (f : CustodyEntry → CustodyEntry) : (s.mapCustody p f).events = s.events := rfl
@[simp] theorem mapCustody_port (p : Point) (f : CustodyEntry → CustodyEntry) : (s.mapCustody p f).port = s.port := rfl
@[simp] theorem mapCustody_pending (p : Point) (f : CustodyEntry → CustodyEntry) : (s.mapCustody p f).pending = s.pending := rfl

@[simp] theorem unanswered_control : (s.unanswered).control = s.control := rfl
@[simp] theorem unanswered_sample : (s.unanswered).sample = s.sample := rfl
@[simp] theorem unanswered_contexts : (s.unanswered).contexts = s.contexts := rfl
@[simp] theorem unanswered_mirror : (s.unanswered).mirror = s.mirror := rfl
@[simp] theorem unanswered_voter : (s.unanswered).voter = s.voter := rfl
@[simp] theorem unanswered_custody : (s.unanswered).custody = s.custody := rfl
@[simp] theorem unanswered_publisher : (s.unanswered).publisher = s.publisher := rfl
@[simp] theorem unanswered_roster : (s.unanswered).roster = s.roster := rfl
@[simp] theorem unanswered_link : (s.unanswered).link = s.link := rfl
@[simp] theorem unanswered_events : (s.unanswered).events = s.events := rfl
@[simp] theorem unanswered_port : (s.unanswered).port = { s.port with miso := .highImpedance } := rfl
@[simp] theorem unanswered_pending : (s.unanswered).pending = s.pending := rfl

@[simp] theorem endOwnEpisode_control : (endOwnEpisode s).control = s.control := rfl
@[simp] theorem endOwnEpisode_sample : (endOwnEpisode s).sample = s.sample := rfl
@[simp] theorem endOwnEpisode_contexts : (endOwnEpisode s).contexts = s.contexts := rfl
@[simp] theorem endOwnEpisode_mirror : (endOwnEpisode s).mirror = s.mirror := rfl
@[simp] theorem endOwnEpisode_voter : (endOwnEpisode s).voter = s.voter := rfl
@[simp] theorem endOwnEpisode_custody : (endOwnEpisode s).custody = s.custody := rfl
@[simp] theorem endOwnEpisode_publisher : (endOwnEpisode s).publisher = s.publisher := rfl
@[simp] theorem endOwnEpisode_roster : (endOwnEpisode s).roster = s.roster := rfl
@[simp] theorem endOwnEpisode_link : (endOwnEpisode s).link = { s.link with loopback := none, jammed := false } := rfl
@[simp] theorem endOwnEpisode_events : (endOwnEpisode s).events = s.events := rfl
@[simp] theorem endOwnEpisode_port : (endOwnEpisode s).port = s.port := rfl
@[simp] theorem endOwnEpisode_pending : (endOwnEpisode s).pending = s.pending := rfl

@[simp] theorem endHeardFrame_control : (endHeardFrame s).control = s.control := by unfold endHeardFrame; split <;> rfl
@[simp] theorem endHeardFrame_sample : (endHeardFrame s).sample = s.sample := by unfold endHeardFrame; split <;> rfl
@[simp] theorem endHeardFrame_contexts : (endHeardFrame s).contexts = s.contexts := by unfold endHeardFrame; split <;> rfl
@[simp] theorem endHeardFrame_mirror : (endHeardFrame s).mirror = s.mirror := by unfold endHeardFrame; split <;> rfl
@[simp] theorem endHeardFrame_voter : (endHeardFrame s).voter = s.voter := by unfold endHeardFrame; split <;> rfl
@[simp] theorem endHeardFrame_custody : (endHeardFrame s).custody = s.custody := by unfold endHeardFrame; split <;> rfl
@[simp] theorem endHeardFrame_publisher : (endHeardFrame s).publisher = s.publisher := by unfold endHeardFrame; split <;> rfl
@[simp] theorem endHeardFrame_roster : (endHeardFrame s).roster = s.roster := by unfold endHeardFrame; split <;> rfl
@[simp] theorem endHeardFrame_events : (endHeardFrame s).events = s.events := by unfold endHeardFrame; split <;> rfl
@[simp] theorem endHeardFrame_port : (endHeardFrame s).port = s.port := by unfold endHeardFrame; split <;> rfl
@[simp] theorem endHeardFrame_pending : (endHeardFrame s).pending = s.pending := by unfold endHeardFrame; split <;> rfl

@[simp] theorem markJammed_control : (markJammed s).control = s.control := rfl
@[simp] theorem markJammed_sample : (markJammed s).sample = s.sample := rfl
@[simp] theorem markJammed_contexts : (markJammed s).contexts = s.contexts := rfl
@[simp] theorem markJammed_mirror : (markJammed s).mirror = s.mirror := rfl
@[simp] theorem markJammed_voter : (markJammed s).voter = s.voter := rfl
@[simp] theorem markJammed_custody : (markJammed s).custody = s.custody := rfl
@[simp] theorem markJammed_publisher : (markJammed s).publisher = s.publisher := rfl
@[simp] theorem markJammed_roster : (markJammed s).roster = s.roster := rfl
@[simp] theorem markJammed_link : (markJammed s).link = { s.link with jammed := true } := rfl
@[simp] theorem markJammed_events : (markJammed s).events = s.events := rfl
@[simp] theorem markJammed_port : (markJammed s).port = s.port := rfl
@[simp] theorem markJammed_pending : (markJammed s).pending = s.pending := rfl

end Sys2Proof.Machine.State
end

