-- ==== Sys2Proof/Laws/Ops.lean ====
section
/-! SUPPORT. What each shared operation of the device can do, said once: raising an event, offering a request, placing a
notice, taking a host command, taking an episode. -/

namespace Sys2Proof.Machine

/-! ### Events (R162 to R164) -/

/-- What raising an event does: a masked event does nothing, and an event that passes is recorded. -/
theorem raise_eq (e : Event) (s : State) :
    raise e s = { s with events := if (eventMask s.control.image).getLsbD e.code then s.events.record e else s.events } := by
  unfold raise; split <;> rfl

@[simp] theorem raise_control (e : Event) (s : State) : (raise e s).control = s.control := by simp [raise_eq]
@[simp] theorem raise_sample (e : Event) (s : State) : (raise e s).sample = s.sample := by simp [raise_eq]
@[simp] theorem raise_contexts (e : Event) (s : State) : (raise e s).contexts = s.contexts := by simp [raise_eq]
@[simp] theorem raise_mirror (e : Event) (s : State) : (raise e s).mirror = s.mirror := by simp [raise_eq]
@[simp] theorem raise_voter (e : Event) (s : State) : (raise e s).voter = s.voter := by simp [raise_eq]
@[simp] theorem raise_custody (e : Event) (s : State) : (raise e s).custody = s.custody := by simp [raise_eq]
@[simp] theorem raise_publisher (e : Event) (s : State) : (raise e s).publisher = s.publisher := by simp [raise_eq]
@[simp] theorem raise_roster (e : Event) (s : State) : (raise e s).roster = s.roster := by simp [raise_eq]
@[simp] theorem raise_link (e : Event) (s : State) : (raise e s).link = s.link := by simp [raise_eq]
@[simp] theorem raise_port (e : Event) (s : State) : (raise e s).port = s.port := by simp [raise_eq]
@[simp] theorem raise_pending (e : Event) (s : State) : (raise e s).pending = s.pending := by simp [raise_eq]

/-- Recording an event: it joins the tail of a queue with room, or is discarded and sets the overflow flag. -/
theorem EventQueue.record_cases (q : EventQueue) (e : Event) :
    (q.records.length < Config.eventCapacity ∧ (q.record e).records = q.records ++ [{ event := e, time := q.time }] ∧
      (q.record e).overflow = q.overflow ∧ (q.record e).attn = true) ∨
    (Config.eventCapacity ≤ q.records.length ∧ (q.record e).records = q.records ∧ (q.record e).overflow = true ∧
      (q.record e).attn = q.attn) := by
  unfold EventQueue.record
  split
  · exact .inl ⟨‹_›, rfl, rfl, rfl⟩
  · exact .inr ⟨by omega, rfl, rfl, rfl⟩

/-- Recording an event leaves the local time. -/
@[simp] theorem EventQueue.record_time (q : EventQueue) (e : Event) : (q.record e).time = q.time := by
  unfold EventQueue.record; split <;> rfl

/-- Raising an event leaves the local time. -/
@[simp] theorem raise_time (e : Event) (s : State) : (raise e s).events.time = s.events.time := by
  rw [raise_eq]; split <;> simp

/-! ### The urgent queue (R133) -/

/-- An offer that is taken: the key is present already, or there was room at the tail. -/
theorem offerTo_eq_some {q q' : List Request} {r : Request} (h : offerTo q r = some q') :
    (r ∈ q ∧ q' = q) ∨ (r ∉ q ∧ q.length < Config.urgentCapacity ∧ q' = q ++ [r]) := by
  unfold offerTo at h
  split at h
  · rename_i hc
    exact .inl ⟨by simpa using hc, by simpa using h.symm⟩
  · rename_i hc
    split at h
    · rename_i hl
      exact .inr ⟨by simpa using hc, hl, by simpa using h.symm⟩
    · cases h

/-- An offer that is refused: the queue is full of requests with other keys. -/
theorem offerTo_eq_none {q : List Request} {r : Request} (h : offerTo q r = none) :
    r ∉ q ∧ Config.urgentCapacity ≤ q.length := by
  unfold offerTo at h
  split at h
  · cases h
  · rename_i hc
    split at h
    · cases h
    · exact ⟨by simpa using hc, by omega⟩

/-- A taken offer keeps the law of the queue. -/
theorem offerTo_law {q q' : List Request} {r : Request} (h : offerTo q r = some q') (hn : q.Nodup)
    (hl : q.length ≤ Config.urgentCapacity) : q'.Nodup ∧ q'.length ≤ Config.urgentCapacity := by
  obtain ⟨-, rfl⟩ | ⟨hr, hlt, rfl⟩ := offerTo_eq_some h
  · exact ⟨hn, hl⟩
  · refine ⟨?_, by simpa using hlt⟩
    rw [List.nodup_append]
    exact ⟨hn, by simp, fun a ha b hb e => hr (by simp at hb; rwa [← hb, ← e])⟩

/-- An offer changes at most the urgent queue. -/
theorem offer_eq (r : Request) (s : State) :
    offer r s = s.withUrgent ((offerTo s.link.urgent r).getD s.link.urgent) := by
  unfold offer; split <;> rename_i h <;> simp [h, State.withUrgent]

/-! ### Notices (R72) -/

/-- A replacement keeps the points of the list in their places. -/
theorem replaceNotice_points {n : Notice} : ∀ {l l' : List Notice}, replaceNotice n l = some l' →
    l'.map Notice.point = l.map Notice.point
  | [], _, h => by simp [replaceNotice] at h
  | x :: xs, l', h => by
    unfold replaceNotice at h
    split at h
    · rename_i hx; simp only [Option.some.injEq] at h; subst h; simp [hx]
    · simp only [Option.map_eq_some_iff] at h
      obtain ⟨m, hm, rfl⟩ := h
      simp [replaceNotice_points hm]

/-- There is nothing to replace exactly when no notice names the point. -/
theorem replaceNotice_eq_none {n : Notice} : ∀ {l : List Notice},
    replaceNotice n l = none ↔ n.point ∉ l.map Notice.point
  | [] => by simp [replaceNotice]
  | x :: xs => by
    unfold replaceNotice
    split
    · rename_i hx; simp [hx]
    · rename_i hx
      simp only [Option.map_eq_none_iff, replaceNotice_eq_none (l := xs), List.map_cons, List.mem_cons, not_or]
      exact ⟨fun h => ⟨fun e => hx e.symm, h⟩, fun h => h.2⟩

/-- Placing a notice keeps the law of the notice list. -/
theorem placeIn_law {l : List Notice} {n : Notice} (hn : (l.map Notice.point).Nodup)
    (hl : l.length ≤ Config.noticeCapacity) :
    ((placeIn l n).map Notice.point).Nodup ∧ (placeIn l n).length ≤ Config.noticeCapacity := by
  unfold placeIn
  split
  · rename_i l' h
    have hp := replaceNotice_points h
    refine ⟨by rw [hp]; exact hn, ?_⟩
    have := congrArg List.length hp
    simp only [List.length_map] at this
    omega
  · rename_i h
    split
    · refine ⟨?_, by simpa using ‹_›⟩
      rw [List.map_append, List.nodup_append]
      refine ⟨hn, by simp, fun a ha b hb e => ?_⟩
      simp only [List.map_cons, List.map_nil, List.mem_singleton] at hb
      exact replaceNotice_eq_none.mp h (by rw [← hb, ← e]; exact ha)
    · exact ⟨hn, hl⟩

/-! ### Host commands (R146, R167) -/

/-- What taking a host command does: nothing in reset, the end of an ignored transaction, or the command itself. -/
theorem hostCommand_cases (f : State → State) (s : State) :
    (s.control.rstAsserted = true ∧ hostCommand f s = s) ∨
    (s.control.rstAsserted = false ∧ s.port.waiting = true ∧
      hostCommand f s = { s with port := { waiting := false, miso := .highImpedance } }) ∨
    (s.control.rstAsserted = false ∧ s.port.waiting = false ∧ hostCommand f s = f s) := by
  unfold hostCommand
  cases h : s.control.rstAsserted <;> cases h' : s.port.waiting <;> simp

/-! ### Episodes (R127, R128, R132) -/

@[simp] theorem Link.free_iff (l : Link) : l.free = true ↔ l.transmission = .idle ∧ l.completion = none := by
  simp [Link.free]

/-- The frame heard back ahead of its completion is the one that was being sent. -/
theorem endHeardFrame_eq (bs : List Byte) (s : State) (h : sendingLoopback s bs = true) :
    ∃ f, s.link.transmission = .frame f ∧ f.bytes = bs ∧
      endHeardFrame s = { s with link := { s.link with transmission := .idle, ltxen := false, completion := some f } } := by
  unfold sendingLoopback at h
  unfold endHeardFrame
  split at h <;> simp_all

/-- What a received frame does: nothing with the receiver off, while a jam or another frame is sent or while a completion is to
come, the end of an ignored episode, the loopback of the frame being sent, or the frame taken. -/
theorem receiveFrame_cases (bs : List Byte) (s : State) :
    (s.receiving = false ∧ receiveFrame bs s = s) ∨
    (s.receiving = true ∧ s.link.ignoring = true ∧ receiveFrame bs s = endIgnoring s) ∨
    (s.receiving = true ∧ s.link.ignoring = false ∧ s.link.free = false ∧
      (sendingLoopback s bs = false ∧ receiveFrame bs s = s ∨
        sendingLoopback s bs = true ∧ receiveFrame bs s = takeBytes bs true (endHeardFrame s))) ∨
    (s.receiving = true ∧ s.link.ignoring = false ∧ s.link.free = true ∧
      receiveFrame bs s = takeBytes bs (owedLoopback s bs) (endOwnEpisode s)) := by
  unfold receiveFrame
  cases s.receiving <;> cases s.link.ignoring <;> cases s.link.free <;> cases sendingLoopback s bs <;> simp

/-- What a jam or a truncated frame does: nothing with the receiver off, while sending or while a completion is to come, the end
of an ignored episode, the end of the episode in which the station collided, or a count and its effect. -/
theorem receiveOther_cases (effect : State → State) (s : State) :
    (s.receiving = false ∧ receiveOther effect s = s) ∨
    (s.receiving = true ∧ s.link.ignoring = true ∧ receiveOther effect s = endIgnoring s) ∨
    (s.receiving = true ∧ s.link.ignoring = false ∧ s.link.free = false ∧ receiveOther effect s = s) ∨
    (s.receiving = true ∧ s.link.ignoring = false ∧ s.link.free = true ∧ s.link.jammed = true ∧
      receiveOther effect s = endOwnEpisode s) ∨
    (s.receiving = true ∧ s.link.ignoring = false ∧ s.link.free = true ∧ s.link.jammed = false ∧
      receiveOther effect s = effect (rejectFrame (endOwnEpisode s))) := by
  unfold receiveOther
  cases s.receiving <;> cases s.link.ignoring <;> cases s.link.free <;> cases s.link.jammed <;> simp

/-- What a completion ends: the frame being sent, the frame heard back already, or nothing. -/
theorem completeFrame_cases (s : State) :
    (∃ f, s.link.transmission = .frame f ∧ completeFrame s =
      reportCompletion f { s.link with transmission := .idle, ltxen := false, loopback := some f } s) ∨
    (∃ f, s.link.transmission = .idle ∧ s.link.completion = some f ∧ completeFrame s =
      reportCompletion f { s.link with completion := none } s) ∨
    ((∀ f, s.link.transmission ≠ .frame f) ∧ (s.link.transmission = .idle → s.link.completion = none) ∧
      completeFrame s = s) := by
  unfold completeFrame
  cases h : s.link.transmission <;> cases h' : s.link.completion <;> simp

/-! ### Custody content (R42) -/

/-- The last value a context supplies: that of a GOOD sample alone (R41, R42). -/
theorem Context.supply_lastValue (c : Context) (d : PointDesc) (h : c.quality = .none ∨ c.quality = .faulted) :
    (c.supply d).lastValue = none ∧ (c.supply d).candidate = none ∧ (c.supply d).assertProgress = 0 ∧
      (c.supply d).clearProgress = 0 := by
  unfold Context.supply
  rcases h with h | h <;> simp [h]

@[simp] theorem Context.supply_quality (c : Context) (d : PointDesc) : (c.supply d).quality = c.quality := by
  unfold Context.supply
  cases h : c.quality <;> simp [h]

/-! ### Timers -/

@[simp] theorem Timer.tick_stopped : Timer.stopped.tick = .stopped := rfl
@[simp] theorem Timer.tick_running (n : Nat) : (Timer.running n).tick = .running (n - 1) := rfl
@[simp] theorem Timer.tick_eq_stopped (t : Timer) : t.tick = .stopped ↔ t = .stopped := by cases t <;> simp
@[simp] theorem Timer.start_ne_stopped (n : Nat) : Timer.start n ≠ .stopped := by simp [Timer.start]
@[simp] theorem Timer.due_iff (t : Timer) : t.due = true ↔ t = .running 0 := by cases t <;> simp [Timer.due]
@[simp] theorem Holdoff.due_iff (t : Holdoff) : t.due = true ↔ t = .running 0 := by cases t <;> simp [Holdoff.due]

end Sys2Proof.Machine
end

