-- ==== Sys2Proof/Laws/Table.lean ====
section
/-! SUPPORT. Reading a cell of a table after each way of making one. -/

namespace Sys2Proof.Table

variable {n : Nat} {α β : Type}

/-- A cell is the element of its number in the list of cells. -/
theorem get_eq (t : Table n α) (i : Fin n) : t.get i = t.cells[i.val]'(by rw [t.size]; exact i.isLt) := rfl

/-- Two tables with the same cells are the same table. -/
theorem ext_get {t u : Table n α} (h : ∀ i, t.get i = u.get i) : t = u := by
  obtain ⟨a, ha⟩ := t
  obtain ⟨b, hb⟩ := u
  have : a = b := by
    apply List.ext_getElem (by rw [ha, hb])
    intro k hk _
    exact h ⟨k, by rw [← ha]; exact hk⟩
  subst this
  rfl

/-- The cell just set reads as the value set. -/
@[simp] theorem get_set_self (t : Table n α) (i : Fin n) (a : α) : (t.set i a).get i = a := by
  simp [get_eq, set]

/-- Every other cell reads as before. -/
@[simp] theorem get_set_ne (t : Table n α) {i j : Fin n} (a : α) (h : j ≠ i) : (t.set i a).get j = t.get j := by
  have : i.val ≠ j.val := fun e => h (Fin.ext e.symm)
  simp [get_eq, set, this]

/-- Reading after a write, both cases at once. -/
theorem get_set (t : Table n α) (i j : Fin n) (a : α) : (t.set i a).get j = if j = i then a else t.get j := by
  by_cases h : j = i
  · subst h; simp
  · simp [h]

/-- Writing back what a cell holds changes nothing. -/
@[simp] theorem set_get (t : Table n α) (i : Fin n) : t.set i (t.get i) = t := by
  apply ext_get
  intro j
  by_cases h : j = i
  · subst h; simp
  · simp [h]

/-- A later write of the same cell stands. -/
@[simp] theorem set_set (t : Table n α) (i : Fin n) (a b : α) : (t.set i a).set i b = t.set i b := by
  apply ext_get
  intro j
  by_cases h : j = i
  · subst h; simp
  · simp [h]

/-- A cell of a changed table is the changed cell. -/
@[simp] theorem get_map (f : α → β) (t : Table n α) (i : Fin n) : (t.map f).get i = f (t.get i) := by
  simp [get_eq, map]

/-- A cell of a tabulated function is its value. -/
@[simp] theorem get_ofFn (f : Fin n → α) (i : Fin n) : (ofFn f).get i = f i := by
  simp [get_eq, ofFn]

/-- Every cell of a filled table holds the same value. -/
@[simp] theorem get_fill (a : α) (i : Fin n) : (fill a : Table n α).get i = a := by
  simp [get_eq, fill]

/-- The list of cells holds exactly the cells. -/
theorem mem_cells (t : Table n α) (a : α) : a ∈ t.cells ↔ ∃ i, t.get i = a := by
  constructor
  · intro h
    obtain ⟨k, hk, rfl⟩ := List.getElem_of_mem h
    exact ⟨⟨k, by rw [← t.size]; exact hk⟩, rfl⟩
  · rintro ⟨i, rfl⟩
    exact List.getElem_mem _

end Sys2Proof.Table
end

