-- ==== Sys2Proof/Laws/Frames.lean ====
section
/-! SUPPORT. What each block's operations leave alone, said once for each operation: the voter's, the re-examination of
custody triggers, a content write, and the taking of assertions. -/

namespace Sys2Proof.Machine

/-- `t` differs from `s` in the voter, the urgent queue and the recorded events alone. -/
structure VoterStep (s t : State) : Prop where
  control : t.control = s.control
  sample : t.sample = s.sample
  contexts : t.contexts = s.contexts
  mirror : t.mirror = s.mirror
  custody : t.custody = s.custody
  publisher : t.publisher = s.publisher
  roster : t.roster = s.roster
  link : t.link = { s.link with urgent := t.link.urgent }
  time : t.events.time = s.events.time
  port : t.port = s.port
  pending : t.pending = s.pending

theorem VoterStep.refl (s : State) : VoterStep s s := by constructor <;> rfl

theorem VoterStep.trans {s t u : State} (h : VoterStep s t) (k : VoterStep t u) : VoterStep s u where
  control := k.control.trans h.control
  sample := k.sample.trans h.sample
  contexts := k.contexts.trans h.contexts
  mirror := k.mirror.trans h.mirror
  custody := k.custody.trans h.custody
  publisher := k.publisher.trans h.publisher
  roster := k.roster.trans h.roster
  link := by rw [k.link, h.link]
  time := k.time.trans h.time
  port := k.port.trans h.port
  pending := k.pending.trans h.pending

theorem raise_voterStep (e : Event) (s : State) : VoterStep s (raise e s) := by constructor <;> simp

theorem withUrgent_voterStep (q : List Request) (s : State) : VoterStep s (s.withUrgent q) := by
  constructor <;> simp

theorem setGroup_voterStep (g : Group) (r : GroupRecord) (s : State) : VoterStep s (s.setGroup g r) := by
  constructor <;> simp

theorem setLines_voterStep (s : State) : VoterStep s (setLines s) := by constructor <;> rfl

theorem enterState_voterStep (g : Group) (st : GroupState) (s : State) : VoterStep s (enterState g st s) :=
  (setGroup_voterStep g _ s).trans (setLines_voterStep _)

theorem enterArming_voterStep (g : Group) (s : State) : VoterStep s (enterArming g s) :=
  (setGroup_voterStep g _ s).trans (setLines_voterStep _)

theorem announce_voterStep (g : Group) (s : State) : VoterStep s (announce g s) := by
  unfold announce
  split
  · exact withUrgent_voterStep _ s
  · exact setGroup_voterStep g _ s

theorem enterTripped_voterStep (g : Group) (c : Cause) (s : State) : VoterStep s (enterTripped g c s) := by
  unfold enterTripped
  have h1 := (setGroup_voterStep g { s.voter.groups.get g with
    state := .tripped, cause := some c, confirm := .stopped, stamp := s.events.time } s).trans (setLines_voterStep _)
  split <;> split
  · exact ((h1.trans (raise_voterStep _ _)).trans (raise_voterStep _ _)).trans (announce_voterStep g _)
  · exact (h1.trans (raise_voterStep _ _)).trans (raise_voterStep _ _)
  · exact (h1.trans (raise_voterStep _ _)).trans (announce_voterStep g _)
  · exact h1.trans (raise_voterStep _ _)

theorem enterFault_voterStep (g : Group) (s : State) : VoterStep s (enterFault g s) :=
  (enterState_voterStep g .fault s).trans (raise_voterStep _ _)

theorem evaluateClear_voterStep (g : Group) (s : State) : VoterStep s (evaluateClear g s) := by
  unfold evaluateClear
  dsimp only
  split
  · split
    · exact enterTripped_voterStep g _ s
    · exact enterArming_voterStep g s
  · split
    · exact enterFault_voterStep g s
    · exact .refl s

theorem evaluateArming_voterStep (g : Group) (s : State) : VoterStep s (evaluateArming g s) := by
  unfold evaluateArming
  dsimp only
  split
  · exact .refl s
  · split
    · exact enterFault_voterStep g s
    · exact enterState_voterStep g _ s

theorem evaluateFault_voterStep (g : Group) (s : State) : VoterStep s (evaluateFault g s) := by
  unfold evaluateFault
  split
  · exact .refl s
  · exact ((enterState_voterStep g _ s).trans (raise_voterStep _ _)).trans (evaluateClear_voterStep g _)

/-- An evaluation changes the voter, the urgent queue and the recorded events alone (R51). -/
theorem evaluate_voterStep (g : Group) (s : State) : VoterStep s (evaluate g s) := by
  unfold evaluate
  dsimp only
  split
  · have h := setGroup_voterStep g ((s.voter.groups.get g).count (votes (s.groupDesc g) s.mirror)) s
    split
    · exact h.trans (evaluateClear_voterStep g _)
    · exact h.trans (evaluateArming_voterStep g _)
    · exact h.trans (evaluateFault_voterStep g _)
    · exact h
  · exact .refl s

/-- A fold of steps of one kind is a step of that kind. -/
theorem foldl_rel {α σ : Type} {R : σ → σ → Prop} (refl : ∀ s, R s s) (trans : ∀ {s t u}, R s t → R t u → R s u)
    {f : σ → α → σ} (h : ∀ s a, R s (f s a)) : ∀ (l : List α) (s : σ), R s (l.foldl f s)
  | [], s => refl s
  | a :: l, s => trans (h s a) (foldl_rel refl trans h l (f s a))

/-- A point passed to the voter changes the voter, the urgent queue and the recorded events alone (R51). -/
theorem passToVoter_voterStep (p : Point) (s : State) : VoterStep s (passToVoter p s) := by
  unfold passToVoter
  refine foldl_rel .refl .trans (fun s g => ?_) _ s
  split
  · exact evaluate_voterStep g s
  · exact .refl s

theorem confirmExpiry_voterStep (g : Group) (s : State) : VoterStep s (confirmExpiry g s) := by
  unfold confirmExpiry
  dsimp only
  split
  · exact enterTripped_voterStep g _ s
  · exact .refl s

theorem takeTripped_voterStep (a : Station) (own : Bool) (g : Group) (s : State) :
    VoterStep s (takeTripped a own g s) := by
  unfold takeTripped
  split
  · exact .refl s
  · split
    · exact enterTripped_voterStep g _ s
    · exact .refl s

theorem acceptRelease_voterStep (a : Station) (g : Group) (s : State) : VoterStep s (acceptRelease a g s) :=
  ((enterState_voterStep g _ s).trans (raise_voterStep _ _)).trans (evaluate_voterStep g _)

theorem refuseRelease_voterStep (a : Station) (g : Group) (w : RefusedReason) (s : State) :
    VoterStep s (refuseRelease a g w s) := by
  unfold refuseRelease
  dsimp only
  split
  · exact (raise_voterStep _ s).trans (announce_voterStep g _)
  · exact raise_voterStep _ s

theorem takeRelease_voterStep (a : Station) (g : Group) (s : State) : VoterStep s (takeRelease a g s) := by
  unfold takeRelease
  dsimp only
  split
  · split
    · exact refuseRelease_voterStep a g _ s
    · split
      · exact refuseRelease_voterStep a g _ s
      · exact acceptRelease_voterStep a g s
  · exact .refl s

/-- A TRIP frame changes the voter, the urgent queue and the recorded events alone (R102). -/
theorem takeTrip_voterStep (a : Station) (own : Bool) (g k : Byte) (s : State) :
    VoterStep s (takeTrip a own g k s) := by
  unfold takeTrip
  split
  · exact .refl s
  · split
    · split
      · exact takeTripped_voterStep a own _ s
      · split
        · exact takeRelease_voterStep a _ s
        · exact .refl s
    · exact .refl s

/-- The voter's offers at a departure change the voter and the urgent queue alone (R60). -/
theorem reofferTripped_voterStep (s : State) : VoterStep s (reofferTripped s) := by
  unfold reofferTripped
  refine foldl_rel (R := fun (x y : State × Bool) => VoterStep x.1 y.1) (fun x => .refl x.1) .trans ?_ _ (s, false)
  intro x g
  dsimp only
  split
  · exact .refl x.1
  · split
    · split
      · exact (setGroup_voterStep g _ x.1).trans (withUrgent_voterStep _ _)
      · exact .refl x.1
    · exact setGroup_voterStep g _ x.1

/-- `t` differs from `s` in the custody table, the urgent queue and the recorded events alone. -/
structure TriggerStep (s t : State) : Prop where
  control : t.control = s.control
  sample : t.sample = s.sample
  contexts : t.contexts = s.contexts
  mirror : t.mirror = s.mirror
  voter : t.voter = s.voter
  notices : t.custody.notices = s.custody.notices
  publisher : t.publisher = s.publisher
  roster : t.roster = s.roster
  link : t.link = { s.link with urgent := t.link.urgent }
  time : t.events.time = s.events.time
  port : t.port = s.port
  pending : t.pending = s.pending

theorem TriggerStep.refl (s : State) : TriggerStep s s := by constructor <;> rfl

theorem TriggerStep.trans {s t u : State} (h : TriggerStep s t) (k : TriggerStep t u) : TriggerStep s u where
  control := k.control.trans h.control
  sample := k.sample.trans h.sample
  contexts := k.contexts.trans h.contexts
  mirror := k.mirror.trans h.mirror
  voter := k.voter.trans h.voter
  notices := k.notices.trans h.notices
  publisher := k.publisher.trans h.publisher
  roster := k.roster.trans h.roster
  link := by rw [k.link, h.link]
  time := k.time.trans h.time
  port := k.port.trans h.port
  pending := k.pending.trans h.pending

theorem raise_triggerStep (e : Event) (s : State) : TriggerStep s (raise e s) := by constructor <;> simp

theorem offer_triggerStep (r : Request) (s : State) : TriggerStep s (offer r s) := by
  rw [offer_eq]; constructor <;> simp

theorem withUrgent_triggerStep (q : List Request) (s : State) : TriggerStep s (s.withUrgent q) := by
  constructor <;> simp

theorem setCustody_triggerStep (i : Input) (c : CustodyEntry) (s : State) : TriggerStep s (s.setCustody i c) := by
  constructor <;> simp

theorem withTable_triggerStep (t : Table 8 (Option CustodyEntry)) (s : State) : TriggerStep s (s.withTable t) := by
  constructor <;> simp

theorem reportLimit_triggerStep (i : Input) (s : State) : TriggerStep s (reportLimit i s) := by
  unfold reportLimit
  split
  · split
    · exact .refl s
    · exact (setCustody_triggerStep i _ s).trans (raise_triggerStep _ _)
  · exact .refl s

theorem claimTrigger_triggerStep (i : Input) (s : State) : TriggerStep s (claimTrigger i s) := by
  unfold claimTrigger
  split
  · split
    · split
      · exact reportLimit_triggerStep i s
      · exact (setCustody_triggerStep i _ s).trans (offer_triggerStep _ _)
    · exact .refl s
  · exact .refl s

theorem reclaimTrigger_triggerStep (i : Input) (s : State) : TriggerStep s (reclaimTrigger i s) := by
  unfold reclaimTrigger
  split
  · split
    · split
      · exact reportLimit_triggerStep i s
      · exact (setCustody_triggerStep i _ s).trans (offer_triggerStep _ _)
    · exact .refl s
  · exact .refl s

/-- A re-examination changes the custody table, the urgent queue and the recorded events alone (R75). -/
theorem reexamine_triggerStep (i : Input) (s : State) : TriggerStep s (reexamine i s) := by
  unfold reexamine
  split
  · exact (claimTrigger_triggerStep i s).trans (reclaimTrigger_triggerStep i _)
  · exact .refl s

theorem reexamineWhere_triggerStep (f : CustodyEntry → Bool) (s : State) : TriggerStep s (reexamineWhere f s) := by
  unfold reexamineWhere
  refine foldl_rel .refl .trans (fun s i => ?_) _ s
  split
  · split
    · exact reexamine_triggerStep i s
    · exact .refl s
  · exact .refl s

theorem markYield_triggerStep (i : Input) (s : State) : TriggerStep s (markYield i s) := by
  unfold markYield
  split
  · split
    · exact .refl s
    · split
      · exact reportLimit_triggerStep i s
      · split
        · exact .refl s
        · exact (setCustody_triggerStep i _ s).trans (offer_triggerStep _ _)
  · exact .refl s

/-- A point of a RECLAIM frame changes the custody table, the urgent queue and the recorded events alone (R79). -/
theorem takeReclaimPoint_triggerStep (a : Station) (s : State) (b : Byte) : TriggerStep s (takeReclaimPoint a s b) := by
  unfold takeReclaimPoint
  split
  · split
    · split
      · exact markYield_triggerStep _ s
      · exact .refl s
    · exact .refl s
  · exact .refl s

/-- The Custody Controller's offers at a departure change the urgent queue alone (R75). -/
theorem reofferCustody_triggerStep (s : State) : TriggerStep s (reofferCustody s) := by
  unfold reofferCustody
  dsimp only
  refine foldl_rel (R := fun (x y : State × Bool) => TriggerStep x.1 y.1) (fun x => .refl x.1) .trans ?_ _ (s, false)
  intro x r
  split
  · exact .refl x.1
  · split
    · exact withUrgent_triggerStep _ x.1
    · exact .refl x.1

/-! ### Content writes (R22) -/

/-- `t` differs from `s` in the publisher alone. -/
def PublisherStep (s t : State) : Prop := ∃ pub, t = { s with publisher := pub }

theorem makeDue_publisherStep (p : Point) (s : State) : PublisherStep s (makeDue p s) := by
  unfold makeDue
  dsimp only
  split
  · split <;> exact ⟨_, rfl⟩
  · exact ⟨_, rfl⟩

theorem passToPublisher_publisherStep (p : Point) (q : Quality) (h : Hit) (s : State) :
    PublisherStep s (passToPublisher p q h s) := by
  unfold passToPublisher
  split
  · exact makeDue_publisherStep p s
  · exact ⟨_, rfl⟩

/-- `t` differs from `s` in the entry of point `p`, the voter, the publisher, the urgent queue and the recorded events
alone. -/
structure WriteStep (p : Point) (s t : State) : Prop where
  control : t.control = s.control
  sample : t.sample = s.sample
  contexts : t.contexts = s.contexts
  others : ∀ q, q ≠ p → t.mirror.get q = s.mirror.get q
  custody : t.custody = s.custody
  roster : t.roster = s.roster
  link : t.link = { s.link with urgent := t.link.urgent }
  time : t.events.time = s.events.time
  port : t.port = s.port
  pending : t.pending = s.pending

theorem WriteStep.trans {p : Point} {s t u : State} (h : WriteStep p s t) (k : WriteStep p t u) : WriteStep p s u where
  control := k.control.trans h.control
  sample := k.sample.trans h.sample
  contexts := k.contexts.trans h.contexts
  others := fun q hq => (k.others q hq).trans (h.others q hq)
  custody := k.custody.trans h.custody
  roster := k.roster.trans h.roster
  link := by rw [k.link, h.link]
  time := k.time.trans h.time
  port := k.port.trans h.port
  pending := k.pending.trans h.pending

theorem WriteStep.refl (p : Point) (s : State) : WriteStep p s s := by
  constructor <;> first | rfl | exact fun _ _ => rfl

theorem VoterStep.writeStep {s t : State} (h : VoterStep s t) (p : Point) : WriteStep p s t where
  control := h.control
  sample := h.sample
  contexts := h.contexts
  others := fun q _ => by rw [h.mirror]
  custody := h.custody
  roster := h.roster
  link := h.link
  time := h.time
  port := h.port
  pending := h.pending

theorem PublisherStep.writeStep {s t : State} (h : PublisherStep s t) (p : Point) : WriteStep p s t := by
  obtain ⟨pub, rfl⟩ := h
  constructor <;> first | rfl | exact fun _ _ => rfl

theorem setEntry_writeStep (p : Point) (e : MirrorEntry) (s : State) : WriteStep p s (s.setEntry p e) := by
  constructor <;> first | rfl | (intro q hq; simp [hq])

/-- The ways a change is passed on: to the voter or not, and then to the publisher or not (R20, R21). -/
theorem passOn_cases (p : Point) (q : Quality) (h : Hit) (s : State) :
    ∃ t, (t = s ∨ t = passToVoter p s) ∧ (passOn p q h s = t ∨ passOn p q h s = passToPublisher p q h t) := by
  unfold passOn
  extract_lets e s1
  refine ⟨s1, ?_, ?_⟩
  · by_cases hc : e.quality = q ∧ e.hit = h
    · exact .inl (if_pos hc)
    · exact .inr (if_neg hc)
  · by_cases hc : e.owner = some s.own
    · exact .inr (if_pos hc)
    · exact .inl (if_neg hc)

theorem passOn_writeStep (p : Point) (q : Quality) (h : Hit) (s : State) : WriteStep p s (passOn p q h s) := by
  obtain ⟨t, ht, he⟩ := passOn_cases p q h s
  have hs : WriteStep p s t := by
    rcases ht with ht | ht <;> rw [ht]
    · exact .refl p s
    · exact (passToVoter_voterStep p s).writeStep p
  generalize passOn p q h s = u at he
  rcases he with he | he <;> subst he
  · exact hs
  · exact hs.trans ((passToPublisher_publisherStep p q h t).writeStep p)

/-- Passing a change on leaves the mirror (R22). -/
theorem passOn_mirror (p : Point) (q : Quality) (h : Hit) (s : State) : (passOn p q h s).mirror = s.mirror := by
  obtain ⟨t, ht, he⟩ := passOn_cases p q h s
  have hs : t.mirror = s.mirror := by
    rcases ht with ht | ht <;> rw [ht]
    exact (passToVoter_voterStep p s).mirror
  generalize passOn p q h s = u at he
  rcases he with he | he <;> subst he
  · exact hs
  · obtain ⟨_, e⟩ := passToPublisher_publisherStep p q h t
    rw [e]
    exact hs

/-- A content write reaches the entry of its point alone, and passes on (R1, R22). -/
theorem contentWrite_writeStep (p : Point) (q : Quality) (h : Hit) (v : Option Half) (s : State) :
    WriteStep p s (contentWrite p q h v s) := by
  unfold contentWrite
  extract_lets e
  generalize e.written (s.desc p).freshness q h v = e'
  exact (setEntry_writeStep p e' s).trans (passOn_writeStep p e.quality e.hit (s.setEntry p e'))

/-- The entry after a content write (R7, R8, R10, R14, R17, R18). -/
theorem contentWrite_entry (p : Point) (q : Quality) (h : Hit) (v : Option Half) (s : State) :
    (contentWrite p q h v s).mirror.get p = (s.mirror.get p).written (s.desc p).freshness q h v := by
  unfold contentWrite
  extract_lets e
  rw [passOn_mirror, State.setEntry_mirror, Table.get_set_self]

/-- A freshness expiry reaches the entry of its point alone, and passes on (R15, R22). -/
theorem freshnessExpired_writeStep (p : Point) (s : State) : WriteStep p s (freshnessExpired p s) := by
  unfold freshnessExpired
  dsimp only
  split
  · have h (e : MirrorEntry) (q : Quality) (x : Hit) :
        WriteStep p s (passOn p q x (raise (.pointStale p) (s.setEntry p e))) :=
      ((setEntry_writeStep p e s).trans ((raise_voterStep _ _).writeStep p)).trans (passOn_writeStep p q x _)
    generalize s.mirror.get p = e at *
    split
    · exact h { e with quality := .stale, freshness := .stopped } e.quality e.hit
    · exact h { e with quality := .stale, freshness := .stopped } e.quality e.hit
    · exact setEntry_writeStep p { e with freshness := .stopped } s
    · exact setEntry_writeStep p { e with freshness := .stopped } s
  · exact .refl p s

end Sys2Proof.Machine
end

