-- ==== Sys2Proof/Laws/Assertions.lean ====
section
/-! SUPPORT. What taking an assertion, a record and a frame can change (R69, R131), said once. -/

namespace Sys2Proof.Machine

/-- `t` differs from `s` in the contexts, the mirror, the voter, custody, the publisher, the urgent queue and the recorded
events alone. -/
structure TakeStep (s t : State) : Prop where
  control : t.control = s.control
  sample : t.sample = s.sample
  roster : t.roster = s.roster
  link : t.link = { s.link with urgent := t.link.urgent }
  time : t.events.time = s.events.time
  port : t.port = s.port
  pending : t.pending = s.pending

theorem TakeStep.refl (s : State) : TakeStep s s := by constructor <;> rfl

theorem TakeStep.trans {s t u : State} (h : TakeStep s t) (k : TakeStep t u) : TakeStep s u where
  control := k.control.trans h.control
  sample := k.sample.trans h.sample
  roster := k.roster.trans h.roster
  link := by rw [k.link, h.link]
  time := k.time.trans h.time
  port := k.port.trans h.port
  pending := k.pending.trans h.pending

theorem VoterStep.takeStep {s t : State} (h : VoterStep s t) : TakeStep s t :=
  ⟨h.control, h.sample, h.roster, h.link, h.time, h.port, h.pending⟩

theorem TriggerStep.takeStep {s t : State} (h : TriggerStep s t) : TakeStep s t :=
  ⟨h.control, h.sample, h.roster, h.link, h.time, h.port, h.pending⟩

theorem WriteStep.takeStep {p : Point} {s t : State} (h : WriteStep p s t) : TakeStep s t :=
  ⟨h.control, h.sample, h.roster, h.link, h.time, h.port, h.pending⟩

theorem PublisherStep.takeStep {s t : State} (h : PublisherStep s t) : TakeStep s t := by
  obtain ⟨_, rfl⟩ := h
  constructor <;> rfl

theorem mapBound_takeStep (p : Point) (f : Context → Context) (s : State) : TakeStep s (s.mapBound p f) := by
  constructor <;> rfl

theorem mapCustody_takeStep (p : Point) (f : CustodyEntry → CustodyEntry) (s : State) :
    TakeStep s (s.mapCustody p f) := by
  constructor <;> rfl

theorem setOwner_takeStep (p : Point) (o : Station) (e : Epoch) (s : State) : TakeStep s (setOwner p o e s) := by
  constructor <;> rfl

theorem placeNotice_takeStep (p : Point) (s : State) : TakeStep s (placeNotice p s) := by
  unfold placeNotice
  dsimp only
  split
  · constructor <;> rfl
  · exact .refl s

theorem unpublish_takeStep (p : Point) (s : State) : TakeStep s (unpublish p s) := by constructor <;> rfl

theorem demote_takeStep (p : Point) (o : Station) (e : Epoch) (d : ReleaseDetail) (s : State) :
    TakeStep s (demote p o e d s) :=
  ((raise_voterStep _ s).takeStep.trans (unpublish_takeStep p _)).trans (mapCustody_takeStep p _ _)

theorem recordWrite_takeStep (p : Point) (c : Content) (s : State) : TakeStep s (recordWrite p c s) :=
  (contentWrite_writeStep p _ _ _ s).takeStep

theorem promotionWrite_takeStep (p : Point) (s : State) : TakeStep s (promotionWrite p s) := by
  unfold promotionWrite
  split
  · exact (contentWrite_writeStep p _ _ _ s).takeStep
  · exact .refl s

theorem promote_takeStep (p : Point) (e : Epoch) (path : AcquirePath) (s : State) :
    TakeStep s (promote p e path s) :=
  (((raise_voterStep _ s).takeStep.trans (promotionWrite_takeStep p _)).trans
    (makeDue_publisherStep p _).takeStep).trans (mapCustody_takeStep p _ _)

theorem loadHandover_takeStep (p : Point) (w : Carried) (s : State) : TakeStep s (loadHandover p w s) := by
  unfold loadHandover
  split
  · exact mapBound_takeStep p _ s
  · exact .refl s
  · exact .refl s
  · exact .refl s

theorem changeCustody_takeStep (p : Point) (old : MirrorEntry) (o : Station) (e : Epoch) (w : Carried) (s : State) :
    TakeStep s (changeCustody p old o e w s) := by
  unfold changeCustody
  split
  · exact .refl s
  · split
    · exact demote_takeStep p o e _ s
    · split
      · exact (loadHandover_takeStep p w s).trans (promote_takeStep p e _ _)
      · exact .refl s

theorem writeContent_takeStep (p : Point) (w : Carried) (s : State) : TakeStep s (writeContent p w s) := by
  unfold writeContent
  split
  · split
    · exact .refl s
    · exact recordWrite_takeStep p _ s
  · exact .refl s

/-- A decision on an assertion leaves the station's control, roster, anchors and time (R69). -/
theorem applyVerdict_takeStep (p : Point) (v : Verdict) (w : Carried) (s : State) :
    TakeStep s (applyVerdict p v w s) := by
  unfold applyVerdict
  split
  · exact .refl s
  · split
    · exact placeNotice_takeStep p s
    · exact .refl s
  · rename_i o e n
    extract_lets old s1 s2 s3
    have h1 : TakeStep s s1 := (setOwner_takeStep p o e s).trans (changeCustody_takeStep p old o e w _)
    have h2 : TakeStep s s2 := by
      by_cases hn : n = true
      · have : s2 = placeNotice p s1 := if_pos hn
        rw [this]; exact h1.trans (placeNotice_takeStep p s1)
      · have : s2 = s1 := if_neg hn
        rw [this]; exact h1
    have h3 : TakeStep s s3 := h2.trans (writeContent_takeStep p w s2)
    split
    · exact h3
    · exact h3.trans (reexamineWhere_triggerStep _ s3).takeStep

theorem takeStatement_takeStep (b : Byte) (a : Option Station) (e : Epoch) (n : Bool) (s : State) :
    TakeStep s (takeStatement b a e n s) := by
  unfold takeStatement
  split
  · exact applyVerdict_takeStep _ _ _ s
  · exact .refl s
  · exact .refl s

theorem takePointRecord_takeStep (a : Station) (s : State) (r : Record) : TakeStep s (takePointRecord a s r) := by
  unfold takePointRecord
  split
  · split
    · exact applyVerdict_takeStep _ _ _ s
    · exact .refl s
  · exact .refl s

theorem takeClaimRecord_takeStep (a : Station) (s : State) (r : CustodyRecord) :
    TakeStep s (takeClaimRecord a s r) := by
  unfold takeClaimRecord
  split
  · split
    · exact applyVerdict_takeStep _ _ _ s
    · exact .refl s
    · exact .refl s
  · exact .refl s

theorem takeYieldRecord_takeStep (a : Station) (s : State) (r : CustodyRecord) :
    TakeStep s (takeYieldRecord a s r) := by
  unfold takeYieldRecord
  split
  · split
    · exact applyVerdict_takeStep _ _ _ s
    · exact .refl s
    · exact .refl s
  · exact .refl s

/-- The acted pairs and notices of a PRESENCE frame (R117, step 3). -/
theorem takeStatements_takeStep (a : Station) (ps : List ActedPair) (ns : List WireNotice) (s : State) :
    TakeStep s (takeStatements a ps ns s) :=
  (foldl_rel .refl .trans (fun s x => takeStatement_takeStep x.point (some a) x.epoch false s) ps s).trans
    (foldl_rel .refl .trans (fun s n => takeStatement_takeStep n.point (stationOfByte n.owner) n.epoch true s) ns _)

end Sys2Proof.Machine
end

