-- ==== Sys2Proof/Laws/Memory.lean ====
section
/-! SUPPORT. The image store: a read after a write, and that every write keeps the canonical form. -/

namespace Sys2Proof.Machine.Memory

/-- An address below every listed one reads as unlisted. -/
theorem read_of_wfAbove {lo k : Nat} : ∀ {m : List Host.Cell}, wfAbove lo m = true → k < lo → read m k = unlisted
  | [], _, _ => rfl
  | (a, b) :: rest, h, hk => by
    simp only [wfAbove, Bool.and_eq_true, decide_eq_true_eq] at h
    have hne : a ≠ k := by omega
    simp only [read, hne, if_false]
    exact read_of_wfAbove h.2 (by omega)

/-- A canonical list above a bound is canonical above every lower bound. -/
theorem wfAbove_mono {lo lo' : Nat} (hl : lo' ≤ lo) {m : List Host.Cell} (h : wfAbove lo m = true) :
    wfAbove lo' m = true := by
  cases m with
  | nil => rfl
  | cons c rest =>
    simp only [wfAbove, Bool.and_eq_true, decide_eq_true_eq] at h ⊢
    exact ⟨⟨by omega, h.1.2⟩, h.2⟩

/-- One byte written reads as written, and every other byte reads as before. -/
theorem read_write {lo k : Nat} {v : Byte} (j : Nat) :
    ∀ {m : List Host.Cell}, wfAbove lo m = true → read (write m k v) j = if j = k then v else read m j
  | [], _ => by
    simp only [write]
    split
    · rename_i h; subst h; simp [read]
    · simp only [read]; split <;> rename_i h
      · simp [h]
      · simp [Ne.symm h]
  | (a, b) :: rest, h => by
    simp only [wfAbove, Bool.and_eq_true, decide_eq_true_eq] at h
    obtain ⟨⟨_, _⟩, hr⟩ := h
    simp only [write]
    split
    · rename_i hka
      split
      · rename_i hv
        subst hv
        simp only [read]
        by_cases hj : j = k
        · subst hj
          have hne : a ≠ j := by omega
          simp only [hne, if_false, if_true]
          exact read_of_wfAbove hr (show j < a + 1 by omega)
        · simp [hj]
      · simp only [read]
        by_cases hj : j = k
        · simp [hj]
        · simp [hj, Ne.symm hj]
    · split
      · rename_i hka
        subst hka
        split
        · rename_i hv
          subst hv
          by_cases hj : j = k
          · subst hj
            simp only [if_true]
            exact read_of_wfAbove hr (by omega)
          · simp [read, hj, Ne.symm hj]
        · simp only [read]
          by_cases hj : j = k
          · simp [hj]
          · simp [hj, Ne.symm hj]
      · rename_i h1 h2
        simp only [read]
        by_cases hj : a = j
        · have : j ≠ k := by omega
          simp [hj, this]
        · simp only [hj, if_false]
          exact read_write j hr

/-- Writing one byte keeps the list canonical above a bound that the address meets. -/
theorem write_wfAbove {lo k : Nat} {v : Byte} :
    ∀ {m : List Host.Cell}, wfAbove lo m = true → lo ≤ k → wfAbove lo (write m k v) = true
  | [], _, hk => by
    simp only [write]
    split
    · rfl
    · rename_i hv
      simp [wfAbove, hk, hv]
  | (a, b) :: rest, h, hk => by
    simp only [wfAbove, Bool.and_eq_true, decide_eq_true_eq] at h
    obtain ⟨⟨ha, hb⟩, hr⟩ := h
    simp only [write]
    split
    · rename_i hka
      split
      · simp [wfAbove, ha, hb, hr]
      · rename_i hv
        have : k + 1 ≤ a := hka
        simp [wfAbove, hk, hb, hr, hv, this]
    · split
      · rename_i hka
        split
        · exact wfAbove_mono (by omega) hr
        · rename_i hv
          simp [wfAbove, ha, hr, hv]
      · rename_i h1 h2
        simp only [wfAbove, Bool.and_eq_true, decide_eq_true_eq]
        exact ⟨⟨ha, hb⟩, write_wfAbove hr (by omega)⟩

/-- Writing one byte below a limit keeps every listed address below it. -/
theorem write_below {n k : Nat} {v : Byte} (hk : k < n) :
    ∀ {m : List Host.Cell}, (m.all fun c => decide (c.1 < n)) = true →
      ((write m k v).all fun c => decide (c.1 < n)) = true
  | [], _ => by simp only [write]; split <;> simp [hk]
  | (a, b) :: rest, h => by
    simp only [List.all_cons, Bool.and_eq_true] at h
    simp only [write]
    split
    · split <;> simp [h.1, h.2, hk]
    · split
      · split
        · exact h.2
        · simp only [List.all_cons, Bool.and_eq_true]; exact h
      · simp only [List.all_cons, Bool.and_eq_true]
        exact ⟨h.1, write_below hk h.2⟩

/-- A write inside the image keeps its canonical form. -/
theorem write_wf {m : List Host.Cell} (h : wf m = true) {k : Nat} (hk : k < Config.imageBytes) (v : Byte) :
    wf (write m k v) = true := by
  simp only [wf, Bool.and_eq_true] at h ⊢
  exact ⟨write_wfAbove h.1 (Nat.zero_le k), write_below hk h.2⟩

/-- A block of bytes written inside the image keeps its canonical form. -/
theorem writeAll_wf : ∀ (vs : List Byte) {m : List Host.Cell} {k : Nat}, wf m = true →
    k + vs.length ≤ Config.imageBytes → wf (writeAll m k vs) = true
  | [], _, _, h, _ => h
  | v :: vs, _, k, h, hk => by
    simp only [List.length_cons] at hk
    exact writeAll_wf vs (write_wf h (by omega) v) (by omega)

/-- A byte of a block just written reads as written, and every byte outside the block reads as before. -/
theorem read_writeAll : ∀ (vs : List Byte) {m : List Host.Cell} {k : Nat} (j : Nat), wf m = true →
    k + vs.length ≤ Config.imageBytes →
    read (writeAll m k vs) j = if h : k ≤ j ∧ j < k + vs.length then vs[j - k]'(by omega) else read m j
  | [], m, k, j, _, _ => by
    simp [writeAll]
  | v :: vs, m, k, j, h, hk => by
    simp only [List.length_cons] at hk
    have hw : wfAbove 0 m = true := by simp only [wf, Bool.and_eq_true] at h; exact h.1
    rw [writeAll, read_writeAll vs j (write_wf h (by omega) v) (by omega)]
    by_cases h1 : j = k
    · subst h1
      have hn : ¬(j + 1 ≤ j ∧ j < j + 1 + vs.length) := by omega
      have hp : j ≤ j ∧ j < j + (v :: vs).length := by simp
      rw [dif_neg hn, dif_pos hp, read_write j hw]
      simp
    · by_cases h2 : k + 1 ≤ j ∧ j < k + 1 + vs.length
      · have hp : k ≤ j ∧ j < k + (v :: vs).length := by simp only [List.length_cons]; omega
        rw [dif_pos h2, dif_pos hp]
        have : j - k = (j - (k + 1)) + 1 := by omega
        simp only [this, List.getElem_cons_succ]
      · have hp : ¬(k ≤ j ∧ j < k + (v :: vs).length) := by simp only [List.length_cons]; omega
        rw [dif_neg h2, dif_neg hp, read_write j hw, if_neg h1]

/-- The power-up image is in canonical form. -/
theorem reset_wf : wf State.reset.control.image = true := rfl

end Sys2Proof.Machine.Memory
end

