-- ==== Sys2Proof/Laws/PerInstr.lean ====
section
/-! SUPPORT. A property of every command as syntax: the command byte of a host command is one that names a command. -/

namespace Sys2Proof.Laws.CommandByteNamed

/-- The command byte of a command, when it has one, names a command of R178, and its transaction begins with it. -/
def Statement (i : Instr) : Prop :=
  ∀ b, commandByte i = some b → namesCommand b = true ∧ ∃ args, mosiBytes i = some (b :: args)

theorem powerUp (sfsHigh mcsnLow : Bool) : Statement (.powerUp sfsHigh mcsnLow) := by
  rintro b ⟨⟩
theorem rstnAsserted : Statement .rstnAsserted := by
  rintro b ⟨⟩
theorem rstnReleased (sfsHigh mcsnLow : Bool) : Statement (.rstnReleased sfsHigh mcsnLow) := by
  rintro b ⟨⟩
theorem sampleArrival (bits : List Bool) : Statement (.sampleArrival bits) := by
  rintro b ⟨⟩
theorem pointFrame (bytes : List Byte) : Statement (.pointFrame bytes) := by
  rintro b ⟨⟩
theorem claimFrame (bytes : List Byte) : Statement (.claimFrame bytes) := by
  rintro b ⟨⟩
theorem yieldFrame (bytes : List Byte) : Statement (.yieldFrame bytes) := by
  rintro b ⟨⟩
theorem reclaimFrame (bytes : List Byte) : Statement (.reclaimFrame bytes) := by
  rintro b ⟨⟩
theorem trippedFrame (bytes : List Byte) : Statement (.trippedFrame bytes) := by
  rintro b ⟨⟩
theorem releaseFrame (bytes : List Byte) : Statement (.releaseFrame bytes) := by
  rintro b ⟨⟩
theorem presenceFrame (bytes : List Byte) : Statement (.presenceFrame bytes) := by
  rintro b ⟨⟩
theorem badFrame (bytes : List Byte) : Statement (.badFrame bytes) := by
  rintro b ⟨⟩
theorem jam : Statement .jam := by
  rintro b ⟨⟩
theorem truncatedFrame : Statement .truncatedFrame := by
  rintro b ⟨⟩
theorem idleEvent : Statement .idleEvent := by
  rintro b ⟨⟩
theorem carrierSeen : Statement .carrierSeen := by
  rintro b ⟨⟩
theorem win : Statement .win := by
  rintro b ⟨⟩
theorem completion : Statement .completion := by
  rintro b ⟨⟩
theorem collision : Statement .collision := by
  rintro b ⟨⟩
theorem jamEnd : Statement .jamEnd := by
  rintro b ⟨⟩
theorem freshnessExpiry (p : Point) : Statement (.freshnessExpiry p) := by
  rintro b ⟨⟩
theorem confirmTimerExpiry (g : Group) : Statement (.confirmTimerExpiry g) := by
  rintro b ⟨⟩
theorem refreshTimerExpiry (p : Point) : Statement (.refreshTimerExpiry p) := by
  rintro b ⟨⟩
theorem claimRetryExpiry (i : Input) : Statement (.claimRetryExpiry i) := by
  rintro b ⟨⟩
theorem reclaimWaitExpiry (i : Input) : Statement (.reclaimWaitExpiry i) := by
  rintro b ⟨⟩
theorem holdoffExpiry (i : Input) : Statement (.holdoffExpiry i) := by
  rintro b ⟨⟩
theorem silenceTimerExpiry (a : Station) : Statement (.silenceTimerExpiry a) := by
  rintro b ⟨⟩
theorem presenceTimerExpiry : Statement .presenceTimerExpiry := by
  rintro b ⟨⟩
theorem listenTimerExpiry : Statement .listenTimerExpiry := by
  rintro b ⟨⟩
theorem isolationHoldExpiry : Statement .isolationHoldExpiry := by
  rintro b ⟨⟩
theorem validationCompletion (carrier : Bool) : Statement (.validationCompletion carrier) := by
  rintro b ⟨⟩
theorem writeImage (offset : Half) (data : List Byte) : Statement (.writeImage offset data) := by
  rintro b ⟨⟩
  exact ⟨by decide, _, rfl⟩
theorem readImage (offset count : Half) : Statement (.readImage offset count) := by
  rintro b ⟨⟩
  exact ⟨by decide, _, rfl⟩
theorem start : Statement .start := by
  rintro b ⟨⟩
  exact ⟨by decide, _, rfl⟩
theorem restart (sfsHigh : Bool) : Statement (.restart sfsHigh) := by
  rintro b ⟨⟩
  exact ⟨by decide, _, rfl⟩
theorem readStatus : Statement .readStatus := by
  rintro b ⟨⟩
  exact ⟨by decide, _, rfl⟩
theorem readPoint (point : Byte) : Statement (.readPoint point) := by
  rintro b ⟨⟩
  exact ⟨by decide, _, rfl⟩
theorem readGroup (group : Byte) : Statement (.readGroup group) := by
  rintro b ⟨⟩
  exact ⟨by decide, _, rfl⟩
theorem readRoster (station : Byte) : Statement (.readRoster station) := by
  rintro b ⟨⟩
  exact ⟨by decide, _, rfl⟩
theorem popEvent : Statement .popEvent := by
  rintro b ⟨⟩
  exact ⟨by decide, _, rfl⟩
theorem clearLatch (point : Byte) : Statement (.clearLatch point) := by
  rintro b ⟨⟩
  exact ⟨by decide, _, rfl⟩
theorem release (group : Byte) : Statement (.release group) := by
  rintro b ⟨⟩
  exact ⟨by decide, _, rfl⟩
theorem reclaim : Statement .reclaim := by
  rintro b ⟨⟩
  exact ⟨by decide, _, rfl⟩
theorem unknownCommandByte (code : Byte) : Statement (.unknownCommandByte code) := by
  rintro b ⟨⟩
theorem partialCommandDiscarded : Statement .partialCommandDiscarded := by
  rintro b ⟨⟩
theorem localTimeTick : Statement .localTimeTick := by
  rintro b ⟨⟩

end Sys2Proof.Laws.CommandByteNamed
end

