-- ==== Sys2Proof/Tests/Slice0.lean ====
section
/-! SUPPORT. The model's own tests: expected values worked by hand from the manual's layouts, tables and worked examples,
and, for each statement with hypotheses, a concrete state and operands that meet them (`meets_…`). The stations are those
of the manual's worked sequences: station 2 is home of points 5 and 6, station 7 is home of point 9 and standby of 5. -/

namespace Sys2Proof.Tests

set_option Elab.async false

open Sys2Proof.Machine Sys2Proof.Safety

/-! ### A small image and the states over it -/

/-- The descriptors that are not those of an unused point, by their first byte (R177). -/
def pointBytes (p : Nat) : List Byte :=
  if p = 5 then [2, 7, 0x03, 0x32, 0x00, 0xC8, 0x03, 0x20, 0x00, 0x32, 0x00, 0x28, 0x00, 0x0A]
  else if p = 6 then [2, 11, 0x03, 0x32, 0x00, 0xC8, 0x03, 0x20, 0x00, 0x32, 0x00, 0x64, 0x00, 0x14]
  else if p = 9 then [7, 0xFF, 0x00, 0x11, 0x00, 0x00, 0x03, 0x20, 0x00, 0x32, 0x00, 0x28, 0x00, 0x0A]
  else [0xFF]

/-- Group 3 is that of the worked sequences; group 1 trips at once and announces, group 2 shrinks and asserts in FAULT,
group 4 counts as clear. -/
def groupBytes (g : Nat) : List Byte :=
  if g = 1 then [1, 1, 0, 0x03, 0, 0, 9]
  else if g = 2 then [2, 1, 2, 0x04, 0, 0, 5, 6]
  else if g = 3 then [3, 2, 0, 0x03, 0, 20, 5, 6, 9]
  else if g = 4 then [1, 1, 1, 0x02, 0, 0, 6]
  else []

/-- Bytes from an address onwards, each with its address. -/
def cellsAt (a : Nat) (bs : List Byte) : List Host.Cell := bs.zipIdx.map (fun x => (a + x.2, x.1))

/-- An image of station `st` with these input bytes: P = 10 ms, silence multiple 3, holdoff 3 × 100 ms, every event
recorded, group 1 on TRIP0 and group 2 on TRIP1. -/
def image (st : Byte) (inputs : List Byte) : List Host.Cell :=
  (cellsAt 0 [0x3C, st] ++ cellsAt 2 inputs ++ cellsAt 10 [0x10, 0x02] ++ cellsAt 18 [0xFF, 0xFF] ++
    cellsAt 32 [10, 3, 3] ++ (List.range 64).flatMap (fun p => cellsAt (64 + 16 * p) (pointBytes p)) ++
    (List.range 16).flatMap (fun g => cellsAt (1088 + 16 * g) (groupBytes g))).filter (fun c => c.2 != 0)

/-- The image of station 2: point 5 at input 0 and point 6 at input 1. -/
def image2 : List Host.Cell := image 2 [5, 6, 0xFF, 0xFF, 0xFF, 0xFF, 0xFF, 0xFF]

/-- The image of station 7: point 9 at input 0 and point 5 at input 3. -/
def image7 : List Host.Cell := image 7 [9, 0xFF, 0xFF, 5, 0xFF, 0xFF, 0xFF, 0xFF]

/-- The station in a state, with an image and nothing else since reset. -/
def stationIn (st : StationState) (m : List Host.Cell) : State :=
  { State.reset with control := { State.reset.control with state := st, image := m, imagePresent := true } }

/-- A running station with stations 2, 7 and 11 heard, and the digest 5. -/
def running (m : List Host.Cell) : State :=
  let s := initialForm false (stationIn .validating m)
  { s with
    control := { s.control with state := .run, digest := 5, listen := .stopped }
    roster := { s.roster with
      entries := s.roster.entries.map (fun r => if r.state = .self then r else
        { state := .present, lastDigest := some 5, silence := .running 30 })
      presenceTimer := .running 10
      presencePending := true
      firstPresence := true } }

/-- Station 2 in RUN: the home of point 5, at input 0. -/
def home : State := running image2

/-- Station 7 in RUN: the standby of point 5, at input 3. -/
def standby : State := running image7

/-- The state after a command. -/
def after (c : Instr) (s : State) : State := match exec c s with
  | .next t => t
  | .fault _ => s
  | .refused _ => s

/-- The point entry with this owner and epoch. -/
def owned (p : Point) (o : Station) (e : Epoch) (s : State) : State :=
  s.setEntry p { s.mirror.get p with owner := some o, epoch := e }

/-- The roster entry of a station in another state. -/
def rosterAt (a : Station) (st : RosterState) (s : State) : State :=
  s.setRoster a { s.roster.entries.get a with state := st }

/-- The custody entry of an input changed. -/
def custodyAt (i : Input) (f : CustodyEntry → CustodyEntry) (s : State) : State :=
  s.withTable (s.custody.table.set i ((s.custody.table.get i).map f))

/-- The station sends nothing but is owed the loopback of a frame. -/
def owing (f : Frame) (s : State) : State := { s with link := { s.link with loopback := some f } }

/-- The station sends a frame. -/
def sends (f : Frame) (s : State) : State :=
  { s with link := { s.link with transmission := .frame f, ltxen := true } }

/-- The station has heard its frame back, and the frame's completion is to come. -/
def heardOwn (f : Frame) (s : State) : State := { s with link := { s.link with completion := some f } }

/-- The station holds a slot of a class. -/
def waits (c : LinkClass) (s : State) : State := { s with link := { s.link with deferral := some ⟨c, 20⟩ } }

/-- The 24 bits of a sample word (R176). -/
def bitsOf (w : BitVec 24) : List Bool := (List.range 24).map (fun k => w.getLsbD (23 - k))

/-! ### Checks of the layouts, from the manual's own values -/

theorem test_crc16_check : crc16 [0x31, 0x32, 0x33, 0x34, 0x35, 0x36, 0x37, 0x38, 0x39] = 0x29B1#16 := by decide +kernel

theorem test_crc32_check : crc32 [0x31, 0x32, 0x33, 0x34, 0x35, 0x36, 0x37, 0x38, 0x39] = 0xCBF43926#32 := by
  decide +kernel

/-- Frame bytes by R174 and R175, the CRC worked apart from the model. -/
theorem test_trip_frames_read :
    parseFrame [0x6B, 0x02, 0x03, 0x01, 0xE8, 0x1F] = some ⟨11, .trip 3 1⟩ ∧
    parseFrame [0x67, 0x02, 0x03, 0x02, 0x97, 0x4E] = some ⟨7, .trip 3 2⟩ ∧
    parseFrame [0x52, 0x02, 0x01, 0x05, 0x11, 0x67] = some ⟨2, .reclaim [5]⟩ := by decide +kernel

theorem test_record_frames_read :
    parseFrame [0x22, 0x07, 0x01, 0x05, 0x00, 0x01, 0x54, 0x03, 0x2C, 0x01, 0x96] =
      some ⟨2, .point [⟨5, 1, .good, 2, some 812⟩]⟩ ∧
    parseFrame [0x37, 0x09, 0x01, 0x05, 0x00, 0x01, 0xD4, 0x03, 0x2C, 0x12, 0x01, 0x62, 0x69] =
      some ⟨7, .claim [⟨⟨5, 1, .stale, 2, some 812⟩, ⟨1, 2, 1⟩⟩]⟩ ∧
    parseFrame [0x47, 0x07, 0x01, 0x05, 0x00, 0x02, 0x48, 0x21, 0x03, 0x96, 0xA8] =
      some ⟨7, .yield [⟨⟨5, 2, .good, 1, none⟩, ⟨2, 1, 3⟩⟩]⟩ := by decide +kernel

theorem test_presence_frame_read :
    parseFrame [0x12, 0x0D, 0x00, 0x00, 0x00, 0x05, 0x01, 0x06, 0x00, 0x00, 0x01, 0x05, 0x07, 0x00, 0x01, 0x0A, 0x02] =
      some ⟨2, .presence 5 [⟨6, 0⟩] [⟨5, 7, 1⟩]⟩ := by decide +kernel

/-- A frame of no kind, one with a CRC bit wrong, and one with a count of 0 are refused (R129). -/
theorem test_frames_refused :
    parseFrame [0x72, 0x00, 0x73, 0x34] = none ∧ parseFrame [0x6B, 0x02, 0x03, 0x01, 0xE8, 0x1E] = none ∧
    parseFrame (Frame.bytes ⟨2, .reclaim []⟩) = none := by decide +kernel

/-- The payload sizes that section 11.3 works out. -/
theorem test_payload_sizes :
    (Payload.point (List.replicate 8 ⟨5, 1, .good, 2, some 812⟩)).bytes.length = 49 ∧
    (Payload.claim [⟨⟨5, 1, .good, 2, none⟩, ⟨0, 0, 0⟩⟩]).bytes.length = 7 ∧
    (Payload.claim (List.replicate 8 ⟨⟨5, 1, .good, 2, some 812⟩, ⟨0, 0, 0⟩⟩)).bytes.length = 65 ∧
    (Payload.presence 5 (List.replicate 8 ⟨6, 0⟩) (List.replicate 8 ⟨5, 7, 1⟩)).bytes.length = 62 := by decide +kernel

/-- Transactions of R178 by their bytes. -/
theorem test_transactions_decode :
    decodeMosi false [0x21, 0x00, 0x40, 0x00, 0x02, 0xAA, 0xBB, 0xCC] = .writeImage 64 [0xAA, 0xBB] ∧
    decodeMosi false [0x21, 0x00, 0x40, 0x00, 0x02, 0xAA] = .partialCommandDiscarded ∧
    decodeMosi true [0x31] = .restart true ∧ decodeMosi false [0x51, 0x03] = .release 3 ∧
    decodeMosi false [0x60] = .unknownCommandByte 0x60 := by decide +kernel

/-- A payload of L bytes holds the line for (L + 6) × 4 µs, and the jam for 16 µs (R126, R173). -/
theorem test_line_times :
    lineMicros (lineSymbols (Frame.bytes ⟨11, .trip 3 1⟩)) = (2 + 6) * 4 ∧ lineMicros jamSymbols = 16 ∧
    sortEpisode (seenDelimiter ++ [.one, .zero]) = .truncated := by decide +kernel

/-- The line levels of R173 written out: four half-cells of the idle level, then K J 1 0 J K 0 1, the end delimiter J K 0 1 K J
1 0, and 2 µs of quiet are one frame with no bytes; with 1.75 µs of it the episode is not over. Three J in a row are a jam. -/
theorem test_episodes_from_levels :
    let h := true
    let l := false
    let frame := [h, h, l, l, h, l, l, h, l, l, h, h, l, h, h, l] ++ [l, l, h, h, l, h, h, l, h, h, l, l, h, l, l, h]
    receivedEpisodes ([h, h, h, h] ++ frame ++ [h, h, h, h, h, h, h, h]) = [.frame []] ∧
    receivedEpisodes (frame ++ [h, h, h, h, h, h]) = [] ∧
    receivedEpisodes (frame ++ [h, h, h, h, l, l, h, h, h, h, h, h, h, h]) = [.frame []] ∧
    receivedEpisodes (frame ++ [h, h, h, h, h, h, h, l, l, h, h, h, h, h, h, h, h]) = [.frame [], .truncated] ∧
    receivedEpisodes ([l, l, l, l, l, l] ++ [h, h, h, h, h, h, h, h]) = [.jam] := by decide +kernel

/-- R140 and R173: a 0 sent and a 1 heard in bit time 3 is a collision, with the jam from bit time 4 on. -/
theorem test_bits_compared :
    drivenSymbols startDelimiter [.k, .j, .one, .one, .j, .k, .zero, .one] = [.k, .j, .one, .zero] ++ jamSymbols ∧
    drivenSymbols startDelimiter startDelimiter = startDelimiter ∧
    (Transmission.frame ⟨2, .trip 3 1⟩).endCommand (lineSymbols (Frame.bytes ⟨2, .trip 3 1⟩)) = some .completion ∧
    (Transmission.frame ⟨2, .trip 3 1⟩).endCommand (lineSymbols (Frame.bytes ⟨7, .trip 3 1⟩)) = some .collision ∧
    jamComparison jamSymbols = none ∧ (Symbol.k.carrier, Symbol.j.carrier, Symbol.one.carrier) = (false, true, true) := by
  decide +kernel

/-- R167: 0x51 and 0x03 most significant bit first name RELEASE of group 3; seven of the argument's bits take no command. On MISO
the answer 0x03 follows two bytes of 0, and MISO is at high impedance with MCSn high and in reset. -/
theorem test_port_bits :
    let h := true
    let l := false
    decodeMosiBits false [l, h, l, h, l, l, l, h, l, l, l, l, l, l, h, h] = .release 3 ∧
    decodeMosiBits false [l, h, l, h, l, l, l, h, l, l, l, l, l, l, h] = .partialCommandDiscarded ∧
    (List.range 24).map (State.misoLevel (State.reset.answer [0x03]) false 2) =
      (List.replicate 22 l ++ [h, h]).map some ∧
    State.misoLevel (State.reset.answer [0x03]) true 2 23 = none ∧
    State.misoLevel (heldInReset []) false 2 23 = none := by decide +kernel

/-- Operands that a command's event cannot bring are refused. -/
theorem test_ill_formed_refused :
    (Instr.pointFrame [0x6B, 0x02, 0x03, 0x01, 0xE8, 0x1F]).wf = false ∧ (Instr.claimFrame [1]).wf = false ∧
    (Instr.yieldFrame []).wf = false ∧ (Instr.reclaimFrame [0x72, 0x00, 0x73, 0x34]).wf = false ∧
    (Instr.trippedFrame [0x67, 0x02, 0x03, 0x02, 0x97, 0x4E]).wf = false ∧
    (Instr.releaseFrame [0x6B, 0x02, 0x03, 0x01, 0xE8, 0x1F]).wf = false ∧ (Instr.presenceFrame [0]).wf = false ∧
    (Instr.badFrame [0x6B, 0x02, 0x03, 0x01, 0xE8, 0x1F]).wf = false ∧ (Instr.unknownCommandByte 0x30).wf = false ∧
    Record.wf ⟨5, 1, .good, 5, none⟩ = false ∧ CustodyRecord.wf ⟨⟨5, 1, .good, 2, none⟩, ⟨4, 0, 0⟩⟩ = false ∧
    (Payload.reclaim []).countsFit = false := by decide +kernel

theorem test_long_write_refused (data : List Byte) (h : data.length = 65536) : (Instr.writeImage 0 data).wf = false := by
  simp [Instr.wf, h]

theorem test_well_formed_accepted :
    (Instr.trippedFrame [0x6B, 0x02, 0x03, 0x01, 0xE8, 0x1F]).wf = true ∧ (Instr.badFrame []).wf = true ∧
    (Instr.unknownCommandByte 0x60).wf = true := by decide +kernel

/-! ### The manual's worked examples -/

/-- Section 2.6: point 6 through its fourteen samples. -/
def samples26 (vs : List (Option Half)) (c : Context) : Context :=
  vs.foldl (fun c v => evaluateSample (home.desc 6)
    { input := 1, fault := v.isNone, value := v.getD 0 } c) c

def context6 : Context := home.contexts.get 1

theorem test_samples_to_fault :
    samples26 [some 500, some 500, some 812, some 790, some 820, some 835] context6 =
      { context6 with quality := .good, lastValue := some 835, candidate := some .high, assertProgress := 2 } ∧
    samples26 [some 500, some 820, some 835, none] context6 = { context6 with quality := .faulted } := by decide +kernel

theorem test_samples_to_clear :
    samples26 [some 840, some 845, some 850, some 770, some 700, some 760] context6 =
      { context6 with quality := .good, lastValue := some 760, hit := .side .high, clearProgress := 1 } ∧
    samples26 [some 840, some 845, some 850, some 770, some 700, some 760, some 690] context6 =
      { context6 with quality := .good, lastValue := some 690 } := by decide +kernel

theorem test_samples_swing :
    samples26 [some 150, some 240, some 130, some 125] { context6 with hit := .side .high } =
      { context6 with
        quality := .good, lastValue := some 125, hit := .side .high, candidate := some .low, assertProgress := 2 } ∧
    samples26 [some 150, some 240, some 130, some 125, some 120, some 230] { context6 with hit := .side .high } =
      { context6 with quality := .good, lastValue := some 230, hit := .side .low } := by decide +kernel

/-- R35: an INSIDE point with lower 100, upper 300, margin 20 holds IN for 81 to 100 and 300 to 319. -/
def inside100 : PointDesc :=
  { home.desc 6 with compare := .inside, lower := 100, upper := 300, margin := 20 }

theorem test_release_zone :
    inReleaseZone inside100 .inside 80 = false ∧ inReleaseZone inside100 .inside 81 = true ∧
    inReleaseZone inside100 .inside 100 = true ∧ inReleaseZone inside100 .inside 319 = true ∧
    inReleaseZone inside100 .inside 320 = false ∧
    inReleaseZone { inside100 with upper := 32000, margin := 4095 } .inside 32767 = false ∧
    conditionSide inside100 100 = none ∧ conditionSide inside100 101 = some .inside := by decide +kernel

/-- The member contents of section 3.8.1. -/
def votes381 (policy : StalePolicy) (cs : List (Quality × Hit)) : List Vote :=
  cs.map (fun c => memberVote policy c.1 c.2)

theorem test_policies_compared :
    votes381 .asHit [(.good, .side .high), (.stale, .side .high), (.faulted, .clear)] = [.hit, .hit, .hit] ∧
    votes381 .asClear [(.good, .side .high), (.stale, .side .high), (.faulted, .clear)] = [.hit, .clear, .clear] ∧
    votes381 .shrink [(.good, .side .high), (.stale, .clear), (.good, .clear)] = [.hit, .excluded, .clear] := by
  decide +kernel

/-- Section 8.6: the offsets of stations 2, 7 and 11. -/
theorem test_offsets :
    16 + rotation 2 15 = 18 ∧ 16 + rotation 2 7 = 26 ∧ 16 + rotation 11 7 = 19 ∧ 16 + rotation 7 2 = 20 ∧
    16 + rotation 2 2 = 31 ∧ 32 + rotation 7 11 = 43 ∧ 32 + rotation 11 11 = 47 := by decide +kernel

/-- Section 1.2 of the scope: with P = 10 ms and a silence multiple of 3. -/
theorem test_times :
    silenceLimit image2 = 30 ∧ isolationHold image2 = 60 ∧ reclaimWaitTime image2 = 20 ∧
    (home.desc 5).refreshTime = 20 := by decide +kernel

/-- Both images pass validation, and the image store of each is in canonical form. -/
theorem test_images_valid :
    validate image2 = .none ∧ validate image7 = .none ∧ Memory.wf image2 = true ∧ Memory.wf image7 = true := by
  decide +kernel

/-! ### Small steps -/

/-- A front command is taken from the queue, and an empty queue idles. -/
theorem test_step_takes_front :
    step { State.reset with pending := [.start, .readStatus] } =
      .next { State.reset with
        control := { State.reset.control with startError := .noImage }
        port := { waiting := false, miso := .response [0x04, 0x01] }
        pending := [.readStatus] } := rfl

theorem test_write_image :
    (after (.writeImage 1343 [0x3C]) State.reset).control.image = [(1343, 0x3C)] ∧
    (after (.writeImage 1343 [0x3C, 1]) State.reset).port.miso = .response [0x03] ∧
    (after (.writeImage 1343 [0x3C, 1]) State.reset).control.imagePresent = false := by decide +kernel

/-- A sample of 812 from input 0 at the home writes its point, and the point becomes due (R7, R90). -/
theorem test_sample_written :
    ((after (.sampleArrival (bitsOf 0x00032C)) home).mirror.get 5).value = some 812 ∧
    ((after (.sampleArrival (bitsOf 0x00032C)) home).mirror.get 5).hit = .clear ∧
    (after (.sampleArrival (bitsOf 0x00032C)) home).publisher.list = [5] := by decide +kernel

/-- The standby's mirror follows the home's record (R10), and the home's own loopback leaves its entry alone (R11). -/
theorem test_record_taken :
    ((after (.pointFrame [0x22, 0x07, 0x01, 0x05, 0x00, 0x01, 0x54, 0x03, 0x2C, 0x01, 0x96]) standby).mirror.get 5).hit =
      .side .high ∧
    ((after (.pointFrame [0x22, 0x07, 0x01, 0x05, 0x00, 0x01, 0x54, 0x03, 0x2C, 0x01, 0x96]) standby).mirror.get 5).epoch =
      1 := by decide +kernel

/-- Group 1 follows station 11's TRIPPED frame with FOLLOW, and TRIP0 is asserted (R103, R61): the frame is that of group 3
above with group 1 in place of it. -/
theorem test_trip_followed :
    ((after (.trippedFrame (Frame.bytes ⟨11, .trip 1 1⟩)) home).voter.groups.get 1).cause = some (.remote 11) ∧
    (after (.trippedFrame (Frame.bytes ⟨11, .trip 1 1⟩)) home).voter.lines = 0b0001#4 := by decide +kernel

/-- An idle event at station 2 with a due point: NORMAL, 16 + 2 under anchor 15 (8.6). -/
theorem test_idle_event :
    (after .idleEvent { home with publisher := { home.publisher with list := [5] } }).link.deferral =
      some ⟨.normal, 18⟩ := by decide +kernel

/-- A win for PRESENCE sends the acted pairs of points 5 and 6 (R122); its completion clears presence pending (R123). -/
theorem test_presence_sent :
    (after .win (waits .background home)).link.transmission =
      .frame ⟨2, .presence 5 [⟨5, 0⟩, ⟨6, 0⟩] []⟩ ∧
    (after .completion (after .win (waits .background home))).roster.presencePending = false := by decide +kernel

/-- The loopback ahead of the completion finds the frame ended (R132, R140): LTXEN is released, a RESTART sends no jam (R143), and
the completion ends it without a second loopback. Before its loopback the frame is cut by the jam. -/
theorem test_loopback_ahead :
    let bytes := Frame.bytes ⟨2, .trip 3 1⟩
    let sent := sends ⟨2, .trip 3 1⟩ (home.withUrgent [.tripped 3, .claim])
    let heard := after (.trippedFrame bytes) sent
    (sent.link.ltxen, heard.link.ltxen, heard.link.transmission, heard.link.urgent) =
      (true, false, .idle, [.tripped 3, .claim]) ∧
    ((after (.restart false) sent).link.ltxen, (after (.restart false) heard).link.ltxen,
      (after (.restart false) heard).link.transmission) = (true, false, .idle) ∧
    ((after .completion heard).link.urgent, (after .completion heard).link.loopback) = ([.claim], none) := by decide +kernel

/-- The eighth collision in a row isolates the station at the end of its jam (R142). -/
theorem test_isolation :
    (after .jamEnd (after .collision { sends ⟨2, .reclaim [5]⟩ home with
      link := { (sends ⟨2, .reclaim [5]⟩ home).link with failures := 7 } })).control.state = .isolated := by
  decide +kernel

/-- A jam of another station that outlasts the station's own raises no count (R128, R141); the next jam does. -/
theorem test_overlapping_jams :
    (after .jam (after .jamEnd (after .collision (sends ⟨2, .reclaim [5]⟩ home)))).link.rejected = 0 ∧
    (after .jam (after .jam (after .jamEnd (after .collision (sends ⟨2, .reclaim [5]⟩ home))))).link.rejected = 1 ∧
    (after .jam (after .idleEvent (after .jamEnd (after .collision (sends ⟨2, .reclaim [5]⟩ home))))).link.rejected = 1 := by
  decide +kernel

/-- R42: custody content of a context that loaded a YIELD's HIGH, by its quality; code 2 is HIGH and code 1 CLEAR. -/
theorem test_custody_content_by_quality :
    let c : Context := { home.contexts.get 1 with hit := .side .high, candidate := some .low, assertProgress := 2 }
    custodyRecord (home.desc 6) 6 1 c = ⟨⟨6, 1, .none, 1, none⟩, ⟨0, 0, 0⟩⟩ ∧
    custodyRecord (home.desc 6) 6 1 { c with quality := .faulted } = ⟨⟨6, 1, .faulted, 2, none⟩, ⟨0, 0, 0⟩⟩ ∧
    custodyRecord (home.desc 6) 6 1 { c with quality := .good, lastValue := some 812 } =
      ⟨⟨6, 1, .good, 2, some 812⟩, ⟨2, 2, 0⟩⟩ := by decide +kernel

/-- The standby claims point 5 once its home is silent and a sample has been taken (R76). -/
theorem test_standby_claim :
    (after (.silenceTimerExpiry 2)
      (let s := { standby with contexts := standby.contexts.set 3 { standby.contexts.get 3 with quality := .good } }
       s.setRoster 2 { s.roster.entries.get 2 with silence := .running 0 })).link.urgent = [.claim] := by decide +kernel

/-! ### States and operands that meet the hypotheses of the statements -/

/-- The custody entry with no mark and every timer stopped. -/
def entryOf (p : Point) (r : CustodyRole) : CustodyEntry :=
  { point := p, role := r, claimDue := false, reclaimDue := false, yieldDue := false, claimRetry := .stopped,
    reclaimWait := .stopped, holdoff := .stopped, lapsed := false, limitReported := false }

/-- The group's record in another state. -/
def groupAt (g : Sys2Proof.Group) (st : GroupState) (s : State) : State :=
  s.setGroup g { s.voter.groups.get g with state := st }

/-- The urgent queue filled to a length with RELEASE requests. -/
def queued (n : Nat) (s : State) : State := s.withUrgent (((List.finRange 16).map Request.release).take n)

theorem meets_HardwareResets :
    ((∀ a b, Instr.start ≠ .powerUp a b) ∧ ∀ a b, Instr.start ≠ .rstnReleased a b) ∧
    (heldInReset []).control.rstAsserted = true ∧ State.reset.control.rstAsserted = false := by decide +kernel

theorem meets_RestartKeepsTheImage : Ready home ∧ Ready (sends ⟨2, .reclaim [5]⟩ home) ∧ Ready State.reset := by
  unfold Ready; decide +kernel

theorem meets_StartAnswers :
    (Ready State.reset ∧ State.reset.control.state = .config ∧ State.reset.control.imagePresent = false) ∧
    (Ready (stationIn .config image2) ∧ (stationIn .config image2).control.imagePresent = true) ∧
    Ready (stationIn .validating image2) ∧ home.control.state.runtime = true := by unfold Ready; decide +kernel

/-- Each check fails alone at a value next to its range: format tag 0x3D, station 16, silence multiple 9, margin above 4095,
k above the member count, a point bound twice, a served point unbound. -/
theorem meets_ValidationStopsAtFirstFailure :
    (stationIn .validating image2).control.rstAsserted = false ∧
    imageByte (Memory.write image2 0 0x3D) 0 ≠ 0x3C ∧ 15 < (imageByte (Memory.write image2 1 16) 1).toNat ∧
    ¬ headerPasses (Memory.write image2 33 9) ∧
    (headerPasses (Memory.write image2 152 0x10) ∧ pointFails (Memory.write image2 152 0x10) 5 = true ∧
      ∀ q, q < 5 → pointFails (Memory.write image2 152 0x10) q = false) := by
  unfold headerPasses; decide +kernel

theorem meets_ValidationOfTables :
    (headerPasses (Memory.write image2 1137 4) ∧ (∀ q, pointFails (Memory.write image2 1137 4) q = false) ∧
      groupFails (Memory.write image2 1137 4) 3 = true ∧ ∀ h, h < 3 → groupFails (Memory.write image2 1137 4) h = false) ∧
    (headerPasses (Memory.write image2 4 5) ∧ (∀ q, pointFails (Memory.write image2 4 5) q = false) ∧
      (∀ h, groupFails (Memory.write image2 4 5) h = false) ∧ inputFails (Memory.write image2 4 5) 2 = true ∧
      ∀ j, j < 2 → inputFails (Memory.write image2 4 5) j = false) ∧
    (headerPasses (Memory.write image2 3 0xFF) ∧ (∀ q, pointFails (Memory.write image2 3 0xFF) q = false) ∧
      (∀ h, groupFails (Memory.write image2 3 0xFF) h = false) ∧ (∀ j, inputFails (Memory.write image2 3 0xFF) j = false) ∧
      pointUnbound (Memory.write image2 3 0xFF) 6 = true ∧
      ∀ q, q < 6 → pointUnbound (Memory.write image2 3 0xFF) q = false) := by
  unfold headerPasses; decide +kernel

/-- Also for `FirstEvaluationFollowsPolicy`: an unused group, and one of each policy. -/
theorem meets_RuntimeInitialization :
    (stationIn .validating image2).control.rstAsserted = false ∧
    (stationIn .validating image2).control.state = .validating ∧ validate image2 = .none ∧
    inputMap image2 7 = none ∧ inputMap image2 0 = some 5 ∧ (home.groupDesc 0).used = false ∧
    ((home.groupDesc 1).policy = .asHit ∧ (home.groupDesc 1).confirm = 0) ∧
    ((home.groupDesc 3).policy = .asHit ∧ (home.groupDesc 3).confirm ≠ 0) ∧ (home.groupDesc 2).policy = .shrink ∧
    (home.groupDesc 4).policy = .asClear := by decide +kernel

/-- Station 2 in LISTEN, its listen time over. -/
def listened : State := { home with control := { home.control with state := .listen, listen := .running 0 } }

theorem meets_ListenExpiryEntersRun :
    listened.control.rstAsserted = false ∧ listened.control.state = .listen ∧ listened.control.listen = .running 0 ∧
    listened.custody.table.get 2 = none ∧ listened.custody.table.get 0 = some (entryOf 5 .home) := by decide +kernel

theorem meets_TickAdvancesEveryTimer : State.reset.active = false ∧ home.active = true := by decide +kernel

theorem meets_SamplesChecked :
    (List.replicate 16 true).length = 16 ∧ (heldInReset []).control.rstAsserted = true ∧
    (after (.rstnReleased true false) (heldInReset [])).sample.abandoned = true ∧
    State.reset.control.state.runtime = false ∧ home.control.state.runtime = true ∧ home.sample.abandoned = false ∧
    [true, true, true].length < 4 ∧ (List.replicate 19 true).length < 20 ∧
    (15 : Fin 16).val = 8 * true.toNat + 4 * true.toNat + 2 * true.toNat + true.toNat ∧
    (24 ≤ (bitsOf 0x800000).length ∧ 8 ≤ (sampleWord (bitsOf 0x800000)).input.val) ∧
    ((sampleWord (bitsOf 0x700000)).input.val = (7 : Input).val ∧ (home.contexts.get 7).point = none) := by
  decide +kernel

/-- The station has taken a good sample at an input. -/
def sampled (i : Input) (s : State) : State :=
  { s with contexts := s.contexts.set i { s.contexts.get i with quality := .good, lastValue := some 500 } }

theorem meets_SampleTaken :
    (SampleFor standby (bitsOf 0x300000) 3 5 ∧ (standby.contexts.get 3).role = .shadow ∧
      (standby.contexts.get 3).quality = .none) ∧
    (SampleFor (sampled 3 standby) (bitsOf 0x3FFFFF) 3 5 ∧ ((sampled 3 standby).contexts.get 3).role = .shadow ∧
      ((sampled 3 standby).contexts.get 3).quality ≠ .none) ∧
    (SampleFor home (bitsOf 0) 0 5 ∧ (home.contexts.get 0).role = .acting ∧ (home.contexts.get 0).quality = .none) ∧
    SampleFor (sampled 0 home) (bitsOf 0) 0 5 ∧ ((sampled 0 home).contexts.get 0).role = .acting ∧
      ((sampled 0 home).contexts.get 0).quality ≠ .none := by
  unfold SampleFor; decide +kernel

/-- Point 6 of section 2.6. -/
def point6 : PointDesc :=
  { home := 2, standby := 11, compare := .outside, publishCode := 0, assertCount := 3, clearCount := 2, lower := 200,
    upper := 800, margin := 50, freshness := 100, deadband := 20 }

/-- The values 800 (held), 750 (not held) and 801 (HIGH) at the edges of R32 and R35. -/
theorem meets_DebounceStep :
    point6.publish ≠ .valueOnly ∧ { point6 with publishCode := 2 }.publish = .valueOnly ∧
    point6.lower.toInt < point6.upper.toInt ∧
    ((∀ y, ¬ meets point6 y (800#16).toInt) ∧ inZone point6 .high (800#16).toInt) ∧
    ((∀ y, ¬ meets point6 y (750#16).toInt) ∧ ¬ inZone point6 .high (750#16).toInt ∧ 2 = min (1 + 1) point6.clearCount ∧
      1 = min (0 + 1) point6.clearCount ∧ (1 : Nat) ≠ point6.clearCount) ∧
    (meets point6 .high (801#16).toInt ∧ Hit.clear ≠ .side .high) ∧
    point6.assertCount ≤ 2 + 1 ∧ 1 + 1 < point6.assertCount := by
  refine ⟨by decide, by decide, by decide, ⟨?_, by unfold inZone; decide⟩, ⟨?_, by unfold inZone; decide, by decide, by decide, by decide⟩,
    ⟨by unfold meets point6; decide, by decide⟩, by decide, by decide⟩ <;>
  · intro y
    cases y <;> (unfold meets point6; decide)

/-- The entry of point 5 with this quality, its freshness time over. -/
def ageing (q : Quality) (s : State) : State :=
  s.setEntry 5 { s.mirror.get 5 with quality := q, freshness := .running 0 }

theorem meets_FreshnessExpiryMakesStale :
    ((ageing .none home).active = true ∧ ((ageing .none home).mirror.get 5).freshness = .running 0) ∧
    ((ageing .good home).mirror.get 5).owner = some (ageing .good home).own ∧
    ((ageing .faulted standby).mirror.get 5).owner ≠ some (ageing .faulted standby).own := by decide +kernel

theorem meets_ClearLatch :
    (Ready State.reset ∧ State.reset.control.state.runtime = false) ∧ (Ready home ∧ home.control.state.runtime = true) ∧
    64 ≤ (64#8).toNat ∧ ((63#8).toNat = (63 : Point).val ∧ (home.mirror.get 63).inUse = false) ∧
    ((5#8).toNat = (5 : Point).val ∧ (home.mirror.get 5).inUse = true) := by unfold Ready; decide +kernel

theorem meets_DuePoints :
    (home.mirror.get 5).quality ≠ .good ∧ ((home.mirror.get 5).quality = .none ∧ (home.mirror.get 5).hit = .none) ∧
    5 ∉ home.publisher.list ∧ (home.withPublishList [5]).publisher.list = [5] ∧
    ((home.withPublishList [5]).publisher.records.get 5).carried = false ∧
    ((markCarried (home.withPublishList [5]) 5).publisher.records.get 5).carried = true := by decide +kernel

theorem meets_VotesCounted : (Quality.stale ≠ .good ∨ Hit.clear = .none) ∧ (home.groupDesc 0).used = false := by
  decide +kernel

/-- Groups 1, 2, 3 and 4 are satisfied without and with a confirm time, without basis, and neither, in any state. -/
theorem meets_GroupMoves :
    (home.voter.groups.get 1).state = .clear ∧ ((groupAt 3 .arming home).voter.groups.get 3).state = .arming ∧
    ((groupAt 3 .tripped home).voter.groups.get 3).state = .tripped ∧
    ((groupAt 2 .fault home).voter.groups.get 2).state = .fault ∧
    ((home.groupDesc 1).used = true ∧ satisfied (home.groupDesc 1) (recount home 1) = true ∧
      (home.groupDesc 1).confirm = 0 ∧ (home.groupDesc 1).announce = true) ∧
    ((home.groupDesc 2).used = true ∧ noBasis (home.groupDesc 2) (recount home 2) = true) ∧
    ((home.groupDesc 3).used = true ∧ satisfied (home.groupDesc 3) (recount home 3) = true ∧
      (home.groupDesc 3).confirm ≠ 0) ∧
    ((home.groupDesc 4).used = true ∧ satisfied (home.groupDesc 4) (recount home 4) = false ∧
      noBasis (home.groupDesc 4) (recount home 4) = false ∧ (home.groupDesc 4).announce = false) ∧
    (Request.tripped 1 ∉ (queued 7 home).link.urgent ∧ (queued 7 home).link.urgent.length < 8) ∧
    8 ≤ (queued 8 home).link.urgent.length := by decide +kernel

/-- Group 3 arming, its confirm time over. -/
def confirming : State :=
  home.setGroup 3 { home.voter.groups.get 3 with state := .arming, confirm := .running 0, hitVotes := 3 }

theorem meets_ConfirmExpiryTrips :
    confirming.active = true ∧ (confirming.voter.groups.get 3).state = .arming ∧
    (confirming.voter.groups.get 3).confirm = .running 0 := by decide +kernel

/-- The event queue filled to a length. -/
def recorded (n : Nat) (s : State) : State :=
  { s with events := { s.events with records := List.replicate n ⟨.linkIsolated, 7⟩, attn := true } }

theorem meets_EventsRecordedAndPopped :
    ((imageHalf home.control.image 18).getLsbD (Event.code .linkIsolated) = true ∧
      (imageHalf State.reset.control.image 18).getLsbD (Event.code .linkIsolated) = false) ∧
    (recorded 31 home).events.records.length < 32 ∧ 32 ≤ (recorded 32 home).events.records.length ∧
    (Ready (recorded 1 home) ∧ (recorded 1 home).events.records = [⟨.linkIsolated, 7⟩]) ∧
    home.events.records = [] := by unfold Ready; decide +kernel

/-- The custody entry of point 5 at its home, with one change. -/
def homeEntry (f : CustodyEntry → CustodyEntry) : State := custodyAt 0 f home

theorem meets_TimerExpiries :
    ((home.setPub 5 { home.publisher.records.get 5 with refresh := .running 0 }).publisher.records.get 5).refresh =
      .running 0 ∧
    (homeEntry (fun c => { c with claimRetry := .running 0 })).custody.table.get 0 =
      some { entryOf 5 .home with claimRetry := .running 0 } ∧
    (homeEntry (fun c => { c with holdoff := .running 0 })).custody.table.get 0 =
      some { entryOf 5 .home with holdoff := .running 0 } ∧
    (homeEntry (fun c => { c with reclaimWait := .running 0 })).custody.table.get 0 =
      some { entryOf 5 .home with reclaimWait := .running 0 } ∧
    (∀ b, (home.desc 5).standbyStation = some b → ((owned 5 7 1 home).mirror.get 5).owner = some b) ∧
    (∀ b, (home.desc 5).standbyStation = some b → (home.mirror.get 5).owner ≠ some b) ∧
    home.control.state = .run ∧ home.active = true := by decide +kernel

/-- Station 7 has been silent for its time at station 2. -/
def silentSoon : State := home.setRoster 7 { home.roster.entries.get 7 with silence := .running 0 }

theorem meets_SilenceExpiry :
    silentSoon.active = true ∧ (silentSoon.roster.entries.get 7).state = .present ∧
    (silentSoon.roster.entries.get 7).silence = .running 0 := by decide +kernel

/-- In RUN with no timer due: each alternative of the statement, but for those that an inactive station meets at once. -/
theorem meets_EventsThatCannotOccur :
    State.reset.active = false ∧ (home.mirror.get 5).freshness ≠ .running 0 ∧
    (home.voter.groups.get 3).confirm ≠ .running 0 ∧ (home.publisher.records.get 5).refresh ≠ .running 0 ∧
    (∀ c, home.custody.table.get 2 = some c → c.claimRetry ≠ .running 0 ∧ c.reclaimWait ≠ .running 0 ∧
      c.holdoff ≠ .running 0) ∧
    (home.roster.entries.get 7).silence ≠ .running 0 ∧ home.roster.presenceTimer ≠ .running 0 ∧
    home.control.state ≠ .listen ∧ home.control.state ≠ .isolated ∧ home.control.state ≠ .validating ∧
    (∀ f, ¬ Completes home f ∧ home.link.transmission ≠ .frame f) ∧ home.link.transmission ≠ .jam ∧
    home.link.transmission ≠ .resetJam ∧ home.link.deferral = none ∧
    (¬ Free (sends ⟨2, .reclaim [5]⟩ home) ∧ ¬ Free (heardOwn ⟨2, .reclaim [5]⟩ home)) ∧
    commandByte .start ≠ none ∧ (heldInReset []).control.rstAsserted = true ∧
    (after (.rstnReleased false true) (heldInReset [])).port.waiting = true := by
  have none2 : home.custody.table.get 2 = none := by decide +kernel
  have idle : home.link.transmission = .idle := by decide +kernel
  refine ⟨by decide +kernel, by decide +kernel, by decide +kernel, by decide +kernel, ?_, by decide +kernel,
    by decide +kernel, by decide +kernel, by decide +kernel, by decide +kernel, ?_, by decide +kernel,
    by decide +kernel, by decide +kernel, by unfold Free; decide +kernel, by decide, by decide +kernel, by decide +kernel⟩
  · intro c h
    rw [none2] at h
    cases h
  · have none' : home.link.completion = none := by decide +kernel
    simp [Completes, idle, none']

/-- Station 7 with a sample taken and its home silent, at this epoch. -/
def homeAway (e : Epoch) : State := rosterAt 2 .silent (owned 5 2 e (sampled 3 standby))

/-- Station 2 with its standby owning point 5 at this epoch, and silent. -/
def standbyAway (e : Epoch) : State := rosterAt 7 .silent (owned 5 7 e home)

theorem meets_ClaimTriggers :
    (∀ s ∈ [standby, homeAway 65534, homeAway 65535], s.custody.table.get 3 = some (entryOf 5 .standby)) ∧
    (∀ s ∈ [homeAway 65534, homeAway 65535], s.control.state = .run ∧ (s.desc 5).homeStation = some 2 ∧
      (s.mirror.get 5).owner = some 2 ∧ (s.roster.entries.get 2).state = .silent ∧
      (s.contexts.get 3).quality ≠ .none) ∧
    (standby.contexts.get 3).quality = .none ∧
    (∀ s ∈ [standbyAway 65534, standbyAway 65535], s.custody.table.get 0 = some (entryOf 5 .home) ∧
      (s.desc 5).standbyStation = some 7 ∧ (s.roster.entries.get 7).state = .silent ∧ s.control.state = .run ∧
      (s.mirror.get 5).owner = some 7) ∧
    (home.mirror.get 5).owner ≠ some 7 ∧ ((homeAway 65535).mirror.get 5).epoch = 65535#16 ∧
    ((standbyAway 65535).mirror.get 5).epoch = 65535#16 ∧
    (standby.custody.table.get 0 = some (entryOf 9 .home) ∧ (standby.desc 9).standbyStation = none) ∧
    State.reset.control.state ≠ .run := by decide +kernel

theorem meets_HomeReclaimTrigger :
    (∀ s ∈ [owned 5 7 65534 home, owned 5 7 65535 home], s.custody.table.get 0 = some (entryOf 5 .home) ∧
      (s.desc 5).standbyStation = some 7 ∧ (s.roster.entries.get 7).state = .present ∧ s.control.state = .run ∧
      (s.mirror.get 5).owner = some 7) ∧
    (home.mirror.get 5).owner ≠ some 7 ∧
    (custodyAt 0 (fun c => { c with lapsed := true }) (owned 5 7 65534 home)).custody.table.get 0 =
      some { entryOf 5 .home with lapsed := true } ∧
    listened.control.state ≠ .run := by decide +kernel

theorem meets_HostReclaim :
    Ready home ∧ home.control.state = .run ∧ Ready State.reset ∧ State.reset.control.state ≠ .run ∧
    home.custody.table.get 2 = none ∧ home.custody.table.get 0 = some (entryOf 5 .home) := by
  unfold Ready; decide +kernel

theorem meets_EpisodesRejected :
    Instr.jam ∈ Instr.jam :: .truncatedFrame :: frameCommands [1] ∧ State.reset.active = false ∧
    (home.active = true ∧ home.link.ignoring = false) ∧
    (after (.validationCompletion true) (stationIn .validating image2)).link.ignoring = true ∧
    (∃ f, (sends ⟨2, .reclaim [5]⟩ home).link.transmission = .frame f ∧ f.bytes ≠ [1]) ∧
    ((heardOwn ⟨2, .reclaim [5]⟩ home).link.transmission = .idle ∧ (heardOwn ⟨2, .reclaim [5]⟩ home).link.completion ≠ none) ∧
    (Hears home ∧ home.link.jammed = false) ∧ parseFrame [1] = none ∧
    (Hears (after .jamEnd (after .collision (sends ⟨2, .reclaim [5]⟩ home))) ∧
      (after .jamEnd (after .collision (sends ⟨2, .reclaim [5]⟩ home))).link.jammed = true) := by
  refine ⟨by decide, by decide +kernel, by decide +kernel, by decide +kernel,
    ⟨⟨2, .reclaim [5]⟩, rfl, by decide +kernel⟩, by decide +kernel, by unfold Hears Free; decide +kernel, by decide +kernel,
    by unfold Hears Free; decide +kernel⟩

/-- The bytes of a RECLAIM frame from station 2 for point 5, and of a TRIPPED frame from station 11 for group 3. -/
def reclaim5 : List Byte := [0x52, 0x02, 0x01, 0x05, 0x11, 0x67]
def tripped3 : List Byte := [0x6B, 0x02, 0x03, 0x01, 0xE8, 0x1F]

theorem meets_DuplicateAndDiscardedFrames :
    Instr.reclaimFrame reclaim5 ∈ frameCommands reclaim5 ∧ Hears home ∧
    (parseFrame reclaim5 = some ⟨2, .reclaim [5]⟩ ∧ (⟨2, .reclaim [5]⟩ : Frame).sender = home.own) ∧
    (∀ g, home.link.loopback = some g → g.bytes ≠ reclaim5) ∧
    (parseFrame tripped3 = some ⟨11, .trip 3 1⟩ ∧ (11 : Station) ≠ home.own ∧
      isPresence (⟨11, .trip 3 1⟩ : Frame).payload = false ∧
      ((rosterAt 11 .silent home).roster.entries.get 11).state ≠ .present) := by
  have none' : home.link.loopback = none := by decide +kernel
  refine ⟨by decide, by unfold Hears Free; decide +kernel, by decide +kernel, ?_, by decide +kernel⟩
  intro g h
  rw [none'] at h
  cases h

/-- The frames of these tests, with the content that `test_record_frames_read` reads. -/
def pointFrom2 : Frame := ⟨2, .point [⟨5, 1, .good, 2, some 812⟩]⟩
def claimFrom7 : Frame := ⟨7, .claim [⟨⟨5, 1, .stale, 2, some 812⟩, ⟨1, 2, 1⟩⟩]⟩
def yieldFrom7 : Frame := ⟨7, .yield [⟨⟨5, 2, .good, 1, some 700⟩, ⟨2, 1, 3⟩⟩]⟩

theorem meets_RecordsTakenInOrder :
    PartnerFrame standby pointFrom2.bytes pointFrom2 ∧ PartnerFrame home claimFrom7.bytes claimFrom7 ∧
    PartnerFrame home yieldFrom7.bytes yieldFrom7 ∧ PartnerFrame standby reclaim5 ⟨2, .reclaim [5]⟩ ∧
    pointOfByte 64 = none ∧ 5 ≤ (5#3).toNat ∧ 4 ≤ (4#4).toNat ∧ (home.mirror.get 63).inUse = false ∧
    ((home.desc 5).homeStation ≠ some 11 ∧ (home.desc 5).standbyStation ≠ some 11) ∧ stationOfByte 16 = none := by
  unfold PartnerFrame ForeignFrame Hears Free; decide +kernel

/-- Also for `RecordsTakenInOrder`: the station's own frames, heard back after their completion and ahead of it. -/
theorem meets_OwnRecordsTaken :
    OwnLoopback (owing pointFrom2 home) pointFrom2.bytes pointFrom2 ∧
    OwnLoopback (sends claimFrom7 standby) claimFrom7.bytes claimFrom7 ∧
    OwnLoopback (sends yieldFrom7 standby) yieldFrom7.bytes yieldFrom7 ∧
    OwnLoopback (sends ⟨2, .reclaim [5]⟩ home) reclaim5 ⟨2, .reclaim [5]⟩ ∧
    ((home.desc 5).homeStation = some 2 ∧ (home.desc 5).standbyStation ≠ some 2) ∧
    (∀ i, (home.custody.table.get i).all (fun c => c.point != 9) = true) := by
  unfold OwnLoopback Hears Free; decide +kernel

/-- `Unbound` read off the tables. -/
theorem unbound_of (s : State) (p : Point)
    (h : (∀ i, (s.contexts.get i).point ≠ some p) ∧ ∀ i, (s.custody.table.get i).all (fun c => c.point != p) = true) :
    Unbound s p := by
  refine ⟨h.1, fun i c hc => ?_⟩
  simpa [hc] using h.2 i

/-- A record for point 5, GOOD and HIGH. -/
def record5 (e : Epoch) : CustodyRecord := ⟨⟨5, e, .good, 2, some 812⟩, ⟨1, 2, 1⟩⟩

/-- The entry of point 5 at epoch 3, its standby the owner. -/
def entry5 : MirrorEntry := { home.mirror.get 5 with owner := some 7, epoch := 3 }

theorem meets_AssertionTable :
    entry5.owner = some 7 ∧ entry5.inUse = true ∧ (home.mirror.get 63).inUse = false ∧
    ((home.desc 5).homeStation = some 2 ∧ (home.desc 5).standbyStation = some 7) ∧
    ((3#16 : Epoch) ≤ 3 ∧ (2#16 : Epoch) < 3 ∧ (3#16 : Epoch) < 4) ∧ (2 : Station) ≠ 7 := by decide +kernel

/-- `BoundAt` read off the tables. -/
theorem boundAt_of (s : State) (p : Point) (i : Input) (c : CustodyEntry)
    (h : (s.contexts.get i).point = some p ∧ (∀ j, (s.contexts.get j).point = some p → j = i) ∧
      s.custody.table.get i = some c ∧ c.point = p ∧
      (∀ j, (s.custody.table.get j).any (fun x => x.point == p) = true → j = i) ∧
      (s.mirror.get p).inUse = true ∧ (c.role = .home ↔ (s.desc p).homeStation = some s.own) ∧
      ((s.desc p).homeStation = some s.own ∨ (s.desc p).standbyStation = some s.own) ∧
      (s.desc p).homeStation ≠ (s.desc p).standbyStation) : BoundAt s p i c := by
  obtain ⟨h1, h2, h3, h4, h5, h6⟩ := h
  exact ⟨h1, h2, h3, h4, fun j x hx hp => h5 j (by simp [hx, hp]), h6⟩

/-- Station 2 with its context as its mirror has it: the standby owns point 5. -/
def demotedHome (e : Epoch) : State := after (.claimFrame (Frame.bytes ⟨7, .claim [⟨⟨5, e, .good, 1, some 7⟩, ⟨0, 0, 0⟩⟩]⟩)) home

/-- Also for `NoticePlacement` and `YieldTable`: at station 7 points 6 and 63 are not bound; point 6 may move from 2 to 11. At
station 2 point 5 is bound, owned and open to a higher epoch of 7; and, once demoted, to its own, at an equal epoch. At station 7
the owner of point 5, its home, may raise the epoch. -/
theorem meets_AcceptedAssertions :
    (Unbound standby 6 ∧ (standby.mirror.get 6).inUse = true ∧ (standby.mirror.get 6).owner = some 2 ∧
      (standby.desc 6).homeStation = some 2 ∧ (standby.desc 6).standbyStation = some 11 ∧ standby.own = 7) ∧
    (BoundAt home 5 0 (entryOf 5 .home) ∧ (home.mirror.get 5).owner = some home.own ∧ (home.mirror.get 5).epoch < 1 ∧
      (home.contexts.get 0).role = roleFor home (some 5)) ∧
    ((demotedHome 1).mirror.get 5).owner = some 7 ∧ ((demotedHome 1).mirror.get 5).epoch = 1 ∧
    ((demotedHome 1).contexts.get 0).role = roleFor (demotedHome 1) (some 5) ∧
    BoundAt (demotedHome 1) 5 0 { entryOf 5 .home with holdoff := .running 300 } ∧
    (BoundAt standby 5 3 (entryOf 5 .standby) ∧ (standby.mirror.get 5).owner = some 2 ∧ (2 : Station) ≠ standby.own ∧
      (standby.mirror.get 5).epoch < 1 ∧ (standby.contexts.get 3).role = roleFor standby (some 5)) ∧
    (hitOfCode (record5 1).record.hit = some (.side .high) ∧ (record5 1).record.value ≠ none ∧
      handoverOf (record5 1).debounce ≠ none) :=
  ⟨⟨unbound_of _ _ (by decide +kernel), by decide +kernel⟩, ⟨boundAt_of _ _ _ _ (by decide +kernel), by decide +kernel⟩,
    by decide +kernel, by decide +kernel, by decide +kernel, boundAt_of _ _ _ _ (by decide +kernel),
    ⟨boundAt_of _ _ _ _ (by decide +kernel), by decide +kernel⟩, by decide +kernel⟩

theorem meets_YieldTable :
    (home.desc 5).homeStation = some 2 ∧ (home.desc 5).standbyStation = some 7 ∧ (home.desc 9).standbyStation ≠ some 7 ∧
    entry5.owner = some 7 ∧ (home.mirror.get 5).owner = some 2 ∧ (2 : Station) ≠ 7 := by decide +kernel

/-- Also for `YieldTable`: point 5 with its home as owner, bound at the home and at the standby. -/
theorem meets_YieldTableBound :
    (BoundAt (owned 5 2 1 home) 5 0 (entryOf 5 .home) ∧
      (home.contexts.get 0).role = roleFor (owned 5 2 1 home) (some 5) ∧ (2 : Station) = home.own) ∧
    (BoundAt (owned 5 2 1 standby) 5 3 (entryOf 5 .standby) ∧
      (standby.contexts.get 3).role = roleFor (owned 5 2 1 standby) (some 5) ∧ (2 : Station) ≠ standby.own) ∧
    ((0#16 : Epoch) < 1 ∧ (1#16 : Epoch) < 2) :=
  ⟨⟨boundAt_of _ _ _ _ (by decide +kernel), by decide +kernel⟩, ⟨boundAt_of _ _ _ _ (by decide +kernel), by decide +kernel⟩,
    by decide⟩

/-- The notice list with a notice for each of the first points. -/
def noticed (n : Nat) (s : State) : State := s.withNotices (((List.finRange 64).map (fun p => ⟨p, 2, 1⟩)).take n)

theorem meets_NoticePlacement :
    (home.mirror.get 5).owner = some 2 ∧
    ((noticed 6 home).custody.notices = (noticed 5 home).custody.notices ++ ⟨5, 2, 1⟩ :: [] ∧
      ∀ y ∈ (noticed 5 home).custody.notices, y.point ≠ 5) ∧
    ((∀ y ∈ (noticed 5 home).custody.notices, y.point ≠ 5) ∧ (noticed 5 home).custody.notices.length < 8) ∧
    ((∀ y ∈ (noticed 8 home).custody.notices, y.point ≠ 9) ∧ 8 ≤ (noticed 8 home).custody.notices.length) ∧
    (recordContent (home.desc 5).publish ⟨5, 0, .good, 2, some 812⟩ ≠ none ∧ (0#16 : Epoch) ≤ (home.mirror.get 5).epoch ∧
      ((owned 5 7 3 home).mirror.get 5).owner = some 7 ∧ (2#16 : Epoch) < ((owned 5 7 3 home).mirror.get 5).epoch) := by
  decide +kernel

theorem meets_SimultaneousClaims :
    ((owned 5 2 65534 home).mirror.get 5).inUse = true ∧ (home.desc 5).homeStation = some 2 ∧
    (home.desc 5).standbyStation = some 7 ∧ (2 : Station) ≠ 7 ∧
    ((owned 5 2 65534 home).mirror.get 5).owner = some 2 ∧ ((owned 5 2 65534 home).mirror.get 5).epoch = 65534 ∧
    (65534#16).toNat < 65535 ∧ pointOfByte (record5 65535).record.point = some 5 ∧
    (record5 65535).record.epoch = 65534#16 + 1 ∧
    recordContent (home.desc 5).publish (record5 65535).record ≠ none ∧ handoverOf (record5 65535).debounce ≠ none := by
  decide +kernel

theorem meets_PointRecordsTaken :
    (PartnerFrame (owned 5 2 1 standby) pointFrom2.bytes pointFrom2 ∧ pointOfByte 5 = some 5 ∧
      hitOfCode 2 = some (.side .high) ∧ ((owned 5 2 1 standby).mirror.get 5).inUse = true ∧
      ((owned 5 2 1 standby).mirror.get 5).owner = some 2 ∧ ((owned 5 2 1 standby).mirror.get 5).epoch = 1 ∧
      ∀ i, (standby.contexts.get i).point = some 5 → (standby.contexts.get i).role = .shadow) ∧
    (OwnLoopback (owing pointFrom2 (owned 5 2 1 home)) pointFrom2.bytes pointFrom2 ∧
      (home.contexts.get 0).point = some 5 ∧ (home.contexts.get 0).role = .acting ∧
      ∀ j, (home.contexts.get j).point = some 5 → j = 0) ∧
    OwnLoopback (sends pointFrom2 (owned 5 2 1 home)) pointFrom2.bytes pointFrom2 := by
  unfold PartnerFrame OwnLoopback ForeignFrame Hears Free; decide +kernel

theorem meets_OwnClaimPromotes :
    OwnLoopback (owing claimFrom7 standby) claimFrom7.bytes claimFrom7 ∧
    BoundAt (owing claimFrom7 standby) 5 3 (entryOf 5 .standby) ∧
    recordContent (standby.desc 5).publish ⟨5, 1, .stale, 2, some 812⟩ ≠ none ∧ handoverOf ⟨1, 2, 1⟩ ≠ none ∧
    (standby.mirror.get 5).owner = some 2 ∧ (2 : Station) ≠ standby.own ∧ (standby.mirror.get 5).epoch < 1 ∧
    (standby.publisher.records.get 5).carried = false ∧
    OwnLoopback (sends claimFrom7 standby) claimFrom7.bytes claimFrom7 :=
  ⟨by unfold OwnLoopback Hears Free; decide +kernel, boundAt_of _ _ _ _ (by decide +kernel),
    by unfold OwnLoopback Hears Free; decide +kernel⟩

theorem meets_YieldPromotesTheHome :
    PartnerFrame (owned 5 7 1 home) yieldFrom7.bytes yieldFrom7 ∧ BoundAt (owned 5 7 1 home) 5 0 (entryOf 5 .home) ∧
    recordContent (home.desc 5).publish ⟨5, 2, .good, 1, some 700⟩ = some ⟨.good, .clear, some 700⟩ ∧
    handoverOf ⟨2, 1, 3⟩ = some ⟨some .low, 1, 3⟩ ∧ (home.desc 5).homeStation = some home.own ∧
    (home.desc 5).standbyStation = some 7 ∧ ((owned 5 7 1 home).mirror.get 5).owner = some 7 ∧
    ((owned 5 7 1 home).mirror.get 5).epoch ≤ 2 :=
  ⟨by unfold PartnerFrame ForeignFrame Hears Free; decide +kernel, boundAt_of _ _ _ _ (by decide +kernel), by decide +kernel⟩

theorem meets_OwnYieldDemotes :
    OwnLoopback (owing yieldFrom7 (owned 5 7 1 standby)) yieldFrom7.bytes yieldFrom7 ∧
    BoundAt (owing yieldFrom7 (owned 5 7 1 standby)) 5 3 (entryOf 5 .standby) ∧
    (standby.desc 5).homeStation = some 2 ∧ (standby.roster.entries.get 2).state = .present ∧
    ((owned 5 7 1 standby).mirror.get 5).owner = some standby.own ∧ ((owned 5 7 1 standby).mirror.get 5).epoch ≤ 2 ∧
    OwnLoopback (sends yieldFrom7 (owned 5 7 1 standby)) yieldFrom7.bytes yieldFrom7 ∧
    OwnLoopback (sends yieldFrom7 (rosterAt 2 .silent (owned 5 7 1 standby))) yieldFrom7.bytes yieldFrom7 :=
  ⟨by unfold OwnLoopback Hears Free; decide +kernel, boundAt_of _ _ _ _ (by decide +kernel),
    by unfold OwnLoopback Hears Free; decide +kernel⟩

theorem meets_StandbyClaimDemotesTheHome :
    PartnerFrame home claimFrom7.bytes claimFrom7 ∧ BoundAt home 5 0 (entryOf 5 .home) ∧
    recordContent (home.desc 5).publish ⟨5, 1, .stale, 2, some 812⟩ = some ⟨.stale, .side .high, some 812⟩ ∧
    (home.mirror.get 5).owner = some home.own ∧ (home.mirror.get 5).epoch < 1 ∧ (entryOf 5 .home).lapsed = false ∧
    (PartnerFrame (owned 5 7 1 standby) pointFrom2.bytes pointFrom2 ∧ (standby.desc 5).homeStation = some pointFrom2.sender ∧
      ((owned 5 7 1 standby).mirror.get 5).owner = some standby.own ∧ ((owned 5 7 1 standby).mirror.get 5).epoch = 1) ∧
    BoundAt (owned 5 7 1 standby) 5 3 (entryOf 5 .standby) :=
  ⟨by unfold PartnerFrame ForeignFrame Hears Free; decide +kernel, boundAt_of _ _ _ _ (by decide +kernel), by decide +kernel,
    by decide +kernel, by decide +kernel, by decide +kernel, by unfold PartnerFrame ForeignFrame Hears Free; decide +kernel,
    boundAt_of _ _ _ _ (by decide +kernel)⟩

theorem meets_ReclaimMarksYield :
    PartnerFrame (owned 5 7 65535 standby) reclaim5 ⟨2, .reclaim [5]⟩ ∧
    BoundAt (owned 5 7 65535 standby) 5 3 (entryOf 5 .standby) ∧
    ((standby.desc 5).homeStation = some 2 ∧ ((owned 5 7 65535 standby).mirror.get 5).owner = some standby.own) ∧
    ((owned 5 7 65535 standby).mirror.get 5).epoch = 65535#16 ∧ ((owned 5 7 1 standby).mirror.get 5).epoch ≠ 65535#16 ∧
    (standby.mirror.get 5).owner ≠ some standby.own :=
  ⟨by unfold PartnerFrame ForeignFrame Hears Free; decide +kernel, boundAt_of _ _ _ _ (by decide +kernel), by decide +kernel⟩

theorem meets_TrippedFrameFollowed :
    (PartnerFrame home tripped3 ⟨11, .trip 3 1⟩ ∧ (3#8).toNat = (3 : Sys2Proof.Group).val ∧ 16 ≤ (16#8).toNat) ∧
    ((home.groupDesc 3).used = true ∧ (home.groupDesc 3).follow = true ∧ (home.voter.groups.get 3).state = .clear) ∧
    ((groupAt 3 .fault home).voter.groups.get 3).state = .fault ∧ (home.groupDesc 2).follow = false ∧
    OwnLoopback (owing ⟨2, .trip 3 1⟩ home) (Frame.bytes ⟨2, .trip 3 1⟩) ⟨2, .trip 3 1⟩ ∧
    OwnLoopback (sends ⟨2, .trip 3 1⟩ home) (Frame.bytes ⟨2, .trip 3 1⟩) ⟨2, .trip 3 1⟩ ∧
    PartnerFrame home (Frame.bytes ⟨11, .trip 3 3⟩) ⟨11, .trip 3 3⟩ := by
  unfold PartnerFrame OwnLoopback ForeignFrame Hears Free; decide +kernel

/-- The group's record TRIPPED with these hit votes and excluded members. -/
def trippedWith (g : Sys2Proof.Group) (hit excluded : Nat) (s : State) : State :=
  s.setGroup g { s.voter.groups.get g with
    state := .tripped, cause := some .localTrip, hitVotes := hit, excluded := excluded }

/-- Also for `TripWinAssembles` and `ReleaseCommand`: a TRIPPED group satisfied, without basis, and neither. -/
theorem meets_ReleaseFrameDecided :
    PartnerFrame home (Frame.bytes ⟨7, .trip 3 2⟩) ⟨7, .trip 3 2⟩ ∧
    OwnLoopback (owing ⟨2, .trip 3 2⟩ home) (Frame.bytes ⟨2, .trip 3 2⟩) ⟨2, .trip 3 2⟩ ∧
    OwnLoopback (sends ⟨2, .trip 3 2⟩ home) (Frame.bytes ⟨2, .trip 3 2⟩) ⟨2, .trip 3 2⟩ ∧
    (PartnerFrame home (Frame.bytes ⟨7, .trip 16 2⟩) ⟨7, .trip 16 2⟩ ∧ 16 ≤ (16#8).toNat) ∧
    (3#8).toNat = (3 : Sys2Proof.Group).val ∧
    (satisfied (home.groupDesc 3) ((trippedWith 3 2 0 home).voter.groups.get 3) = true ∧
      (home.groupDesc 3).announce = true) ∧
    (noBasis (home.groupDesc 3) ((trippedWith 3 0 3 home).voter.groups.get 3) = true) ∧
    (satisfied (home.groupDesc 3) ((trippedWith 3 1 0 home).voter.groups.get 3) = false ∧
      noBasis (home.groupDesc 3) ((trippedWith 3 1 0 home).voter.groups.get 3) = false) ∧
    (home.voter.groups.get 3).state ≠ .tripped ∧
    (satisfied (home.groupDesc 4) ((trippedWith 4 1 0 home).voter.groups.get 4) = true ∧
      (home.groupDesc 4).announce = false) := by
  unfold PartnerFrame OwnLoopback ForeignFrame Hears Free; decide +kernel

/-- A PRESENCE frame with this digest from station 7. -/
def presenceFrom7 (d : Word) : Frame := ⟨7, .presence d [⟨9, 0⟩] [⟨5, 2, 0⟩]⟩

theorem meets_PresenceSetsStanding :
    ForeignFrame home (presenceFrom7 5).bytes (presenceFrom7 5) ∧ (5 : Word) = home.control.digest ∧
    ForeignFrame home (presenceFrom7 6).bytes (presenceFrom7 6) ∧ (6 : Word) ≠ home.control.digest ∧
    OwnLoopback (owing (presenceFrom7 5) standby) (presenceFrom7 5).bytes (presenceFrom7 5) ∧
    OwnLoopback (sends (presenceFrom7 5) standby) (presenceFrom7 5).bytes (presenceFrom7 5) := by
  unfold ForeignFrame OwnLoopback Hears Free; decide +kernel

theorem meets_IdleEventDefers :
    (home.active = true ∧ Free home ∧ home.control.state = .run) ∧
    offers (queued 1 home) = some .urgent ∧ offers (home.withPublishList [5]) = some .normal ∧
    offers home = some .background ∧ (18 : Int) = 16 + ((home.own.val : Int) - home.link.normalAnchor.val - 1) % 16 ∧
    (34 : Int) = 32 + ((home.own.val : Int) - home.link.backgroundAnchor.val - 1) % 16 ∧
    offers { home with roster := { home.roster with presencePending := false } } = none := by unfold Free; decide +kernel

theorem meets_PointAndPresenceWins :
    (waits .normal home).control.rstAsserted = false ∧ (waits .normal home).control.state = .run ∧
    Free (waits .normal home) ∧ (waits .normal home).link.deferral = some ⟨.normal, 20⟩ ∧
    (waits .normal home).publisher.list = [] ∧ (waits .normal (home.withPublishList [6, 5])).publisher.list.Nodup ∧
    (waits .background home).link.deferral = some ⟨.background, 20⟩ := by unfold Free; decide +kernel

theorem meets_TripWinAssembles :
    (waits .urgent (home.withUrgent [.tripped 3])).link.deferral = some ⟨.urgent, 20⟩ ∧
    (waits .urgent (home.withUrgent [.tripped 3])).link.urgent = .tripped 3 :: [] ∧
    (waits .urgent (home.withUrgent [.release 3])).link.urgent = .release 3 :: [] ∧
    (home.voter.groups.get 3).state ≠ .tripped ∧ ((trippedWith 3 1 0 home).voter.groups.get 3).state = .tripped := by
  decide +kernel

/-- Station 7 claims point 5: a carried point, and at epoch 65535 none. -/
def claiming (e : Epoch) : State :=
  waits .urgent ((custodyAt 3 (fun c => { c with claimDue := true }) (homeAway e)).withUrgent [.claim])

theorem meets_CustodyWinAssembles :
    (claiming 65534).link.urgent = .claim :: [] ∧ (claiming 65534).link.deferral = some ⟨.urgent, 20⟩ ∧
    claimAssembly.carried (claiming 65534) = [3] ∧ claimAssembly.carried (claiming 65535) = [] ∧
    (claimAssembly.limited (claiming 65534) = [] ∧ claimAssembly.limited (claiming 65535) = [5]) ∧
    (∀ i j c x, home.custody.table.get i = some c → home.custody.table.get j = some x → c.point = x.point → i = j) := by
  refine ⟨by decide +kernel, by decide +kernel, by decide +kernel, by decide +kernel, by decide +kernel, ?_⟩
  have key : ∀ i j, (home.custody.table.get i).map CustodyEntry.point = (home.custody.table.get j).map CustodyEntry.point →
      home.custody.table.get i ≠ none → i = j := by decide +kernel
  intro i j c x hi hj h
  exact key i j (by simp [hi, hj, h]) (by simp [hi])

/-- Group 3 is owed its announcement. -/
def owedGroup : State := (queued 7 home).setGroup 3
  { home.voter.groups.get 3 with state := .tripped, cause := some .localTrip, announceOwed := true }

theorem meets_DepartureSharesThePlace :
    ((queued 7 home).link.urgent.length = 7 ∧ (queued 7 home).link.urgent.Nodup) ∧
    ((owedGroup.voter.groups.get 3).announceOwed = true ∧
      (∀ h, h < 3 → (owedGroup.voter.groups.get h).announceOwed = false) ∧
      ∀ h, (owedGroup.voter.groups.get h).announceOwed = true → (owedGroup.voter.groups.get h).state = .tripped ∧
        Request.tripped h ∉ owedGroup.link.urgent) ∧
    (∀ g, (home.voter.groups.get g).announceOwed = false) ∧
    (homeEntry (fun c => { c with reclaimDue := true })).custody.table.get 0 =
      some { entryOf 5 .home with reclaimDue := true } := by decide +kernel

theorem meets_CompletionEndsTheFrame :
    (∀ f ∈ [presenceFrom7 5, pointFrom2, claimFrom7, yieldFrom7, ⟨2, .reclaim [5]⟩, ⟨2, .trip 3 1⟩, ⟨2, .trip 3 2⟩],
      Completes (sends f home) f ∧ Completes (heardOwn f home) f) ∧ groupOfByte 3 = some 3 := by
  unfold Completes; decide +kernel

theorem meets_CollisionAndIsolation :
    (sends pointFrom2 home).link.transmission = .frame pointFrom2 ∧
    (after .collision (sends pointFrom2 home)).link.transmission = .jam ∧
    (after .collision (sends pointFrom2 home)).link.failures ≠ 8 ∧
    (after (.restart false) (sends pointFrom2 home)).link.transmission = .resetJam ∧
    ((after .collision { sends pointFrom2 home with
      link := { (sends pointFrom2 home).link with failures := 8 } }).link.failures = 8) ∧
    ({ home with control := { home.control with state := .isolated, isolation := .running 0 } } : State).control.isolation =
      .running 0 := by decide +kernel

theorem meets_ImageAndPartialCommands :
    (Ready home ∧ ImageLaw home) ∧ (Ready (stationIn .config image2) ∧ ImageLaw (stationIn .config image2)) ∧
    Ready (stationIn .validating image2) ∧ home.control.state.runtime = true ∧
    1344 < (1343#16).toNat + [0x3C#8, 1#8].length ∧ (1343#16).toNat + [0x3C#8].length ≤ 1344 ∧
    (60#8 : Byte) ∉ [0x21, 0x22, 0x30, 0x31, 0x40, 0x41, 0x42, 0x43, 0x44, 0x50, 0x51, 0x52] := by
  unfold Ready ImageLaw; decide +kernel

theorem meets_ReadCommands :
    Ready State.reset ∧ State.reset.control.state.runtime = false ∧ Ready home ∧ home.control.state.runtime = true ∧
    64 ≤ (64#8).toNat ∧ 16 ≤ (16#8).toNat ∧ (63#8).toNat = (63 : Point).val ∧ (15#8).toNat = (15 : Station).val ∧
    ((0#8) = 0 ∧ ∀ i, (home.contexts.get i).point ≠ some 9) ∧
    ((home.contexts.get 0).point = some 5 ∧ (∀ j, j < 0 → (home.contexts.get j).point ≠ some 5)) := by
  unfold Ready; decide +kernel

theorem meets_ReleaseCommand :
    Ready (trippedWith 3 1 0 home) ∧ (trippedWith 3 1 0 home).control.state = .run ∧ State.reset.control.state ≠ .run ∧
    ((trippedWith 3 1 0 home).voter.groups.get 3).state = .tripped ∧
    (Request.release 3 ∉ (queued 3 home).link.urgent ∧ Request.release 3 ∈ (queued 4 home).link.urgent) ∧
    (Request.release 9 ∉ (queued 8 home).link.urgent ∧ 8 ≤ (queued 8 home).link.urgent.length) := by
  unfold Ready; decide +kernel

theorem meets_LayoutsReadBack :
    claimFrom7.payload.countsFit = true ∧ (presenceFrom7 5).payload.countsFit = true ∧
    ((Instr.writeImage 64 [0xAA]).wf = true ∧ mosiBytes (.writeImage 64 [0xAA]) = some [0x21, 0, 64, 0, 1, 0xAA] ∧
      ∀ b, Instr.writeImage 64 [0xAA] = .restart b → b = true) ∧
    (2 ≤ 2 ∧ 15 < (lineSymbols []).length) ∧
    (lineSymbols [] = startDelimiter ++ Symbol.j :: [.k, .zero, .one, .k, .j, .one, .zero] ∧ Symbol.j ≠ .k) ∧
    (Ready (answered [0x03] home) ∧ (answered [0x03] home).port.miso = .response [0x03]) := by
  unfold Ready; decide +kernel

/-! ### The laws: states in which they hold, with a command waiting -/

/-- Station 2 just in LISTEN after its first evaluation, with a tick waiting: group 1 stands TRIPPED and announced, group 2 in
FAULT, group 3 ARMING. -/
def live : State :=
  { firstEvaluation (initialForm false (stationIn .validating image2)) with pending := [.localTimeTick] }

theorem live_steps : step live = .next (after .localTimeTick { live with pending := [] }) := by
  rfl

theorem meets_QueueLawsKept :
    UrgentLaw live ∧ EventLaw live ∧ NoticeLaw live ∧ CountLaw live ∧ ImageLaw live ∧ TimeLaw live := by
  unfold UrgentLaw EventLaw NoticeLaw CountLaw ImageLaw TimeLaw; decide +kernel

theorem meets_VoterLawsKept : LineLaw live ∧ GroupLaw live ∧ VoteLaw live ∧ StandingLaw live := by
  unfold LineLaw GroupLaw VoteLaw StandingLaw ResetLaw; decide +kernel

theorem meets_OwnershipLawsKept : OwnerLaw live ∧ RoleLaw live ∧ CustodyLaw live ∧ PublishLaw live ∧ RosterLaw live := by
  refine ⟨by unfold OwnerLaw ResetLaw; decide +kernel, by unfold RoleLaw ResetLaw; decide +kernel, ?_,
    by unfold PublishLaw Acts; decide +kernel, by unfold RosterLaw ResetLaw; decide +kernel⟩
  have key : ∀ i, (live.custody.table.get i).all (fun c => custodyFits c &&
      decide (c.role = .home ↔ (live.desc c.point).homeStation = some live.own)) = true := by decide +kernel
  refine ⟨by unfold ResetLaw; decide +kernel, fun i => ⟨?_, ?_, ?_⟩⟩
  · exact (by decide +kernel : ∀ i, live.control.state.runtime = true →
      (live.custody.table.get i).map CustodyEntry.point = (live.contexts.get i).point) i
  · exact (by decide +kernel : ∀ i, live.control.state.runtime = false →
      live.custody.table.get i = none ∧ (live.contexts.get i).point = none) i
  · intro c h
    have := key i
    simpa [h] using this

theorem meets_ContentAndSendingLawsKept : ContextLaw live ∧ ContentLaw live ∧ FrameLaw live := by
  have idle : live.link.transmission = .idle := by decide +kernel
  have none' : live.link.deferral = none := by decide +kernel
  have owed : live.link.completion = none := by decide +kernel
  refine ⟨by unfold ContextLaw ValidatedLaw ResetLaw; decide +kernel,
    by unfold ContentLaw ContextLaw ValidatedLaw ResetLaw; decide +kernel, by unfold ResetLaw; decide +kernel,
    by decide +kernel, ?_, ?_, ?_, ?_, fun _ => ⟨?_, ?_⟩⟩ <;> simp [idle, none', owed]

theorem meets_NoCommandBreaks :
    live.active = true ∧ (after .localTimeTick live).active = true ∧ (live.voter.groups.get 1).state = .tripped ∧
    live.control.state ≠ .config ∧ (∀ a b, Instr.start ≠ .powerUp a b) ∧ Instr.start ≠ .rstnAsserted ∧
    (after .win (waits .background home)).link.transmission = .frame ⟨2, .presence 5 [⟨5, 0⟩, ⟨6, 0⟩] []⟩ := by
  decide +kernel

end Sys2Proof.Tests
end

/-! The rules of the Point Mirror (chapter 1) that the statements about a freshness expiry and about CLEAR-LATCH rest on, and
those statements. -/

section

namespace Sys2Proof.Machine

open Sys2Proof.Safety

/-! ### This station's number is read from the image alone (R177) -/

@[simp] theorem State.setEntry_own (p : Point) (e : MirrorEntry) (s : State) : (s.setEntry p e).own = s.own := rfl

@[simp] theorem raise_own (e : Event) (s : State) : (raise e s).own = s.own := by simp [State.own]

/-! ### Passing on a change of quality (R20, R21, R90) -/

/-- A changed quality makes the point due, whatever its publish mode, hit and value are (R90). -/
theorem passToPublisher_of_quality_ne {p : Point} {q : Quality} {s : State} (h : Hit)
    (hq : (s.mirror.get p).quality ≠ q) : passToPublisher p q h s = makeDue p s := by
  simp [passToPublisher, changeDue, hq]

/-- A changed quality reaches the voter, and makes a point that this station owns due. -/
theorem passOn_of_quality_ne {p : Point} {q : Quality} {s : State} (h : Hit) (hq : (s.mirror.get p).quality ≠ q) :
    passOn p q h s =
      if (s.mirror.get p).owner = some s.own then makeDue p (passToVoter p s) else passToVoter p s := by
  have hvoted : ((passToVoter p s).mirror.get p).quality ≠ q := by
    rwa [(passToVoter_voterStep p s).mirror]
  simp [passOn, hq, passToPublisher_of_quality_ne h hvoted]

/-! ### A freshness expiry (R15) -/

theorem exec_freshnessExpiry (p : Point) (s : State) :
    exec (.freshnessExpiry p) s = .next (freshnessExpired p s) := rfl

/-- The expiry of an entry that is NONE or STALE stops the timer and does nothing else. -/
theorem freshnessExpired_of_none_or_stale {p : Point} {s : State} (ha : s.active = true)
    (hf : (s.mirror.get p).freshness = .running 0)
    (hq : (s.mirror.get p).quality = .none ∨ (s.mirror.get p).quality = .stale) :
    freshnessExpired p s = s.setEntry p { s.mirror.get p with freshness := .stopped } := by
  rcases hq with hq | hq <;> simp [freshnessExpired, ha, hf, hq]

/-- The expiry of an entry that is GOOD or FAULTED makes it STALE and raises POINT_STALE; the change is one of quality, and
so it reaches the voter and makes an own point due. -/
theorem freshnessExpired_of_good_or_faulted {p : Point} {s : State} (ha : s.active = true)
    (hf : (s.mirror.get p).freshness = .running 0)
    (hq : (s.mirror.get p).quality = .good ∨ (s.mirror.get p).quality = .faulted) :
    let s1 := passToVoter p
      (raise (.pointStale p) (s.setEntry p { s.mirror.get p with quality := .stale, freshness := .stopped }))
    freshnessExpired p s = if (s.mirror.get p).owner = some s.own then makeDue p s1 else s1 := by
  have hstale : freshnessExpired p s = passOn p (s.mirror.get p).quality (s.mirror.get p).hit
      (raise (.pointStale p) (s.setEntry p { s.mirror.get p with quality := .stale, freshness := .stopped })) := by
    rcases hq with hq | hq <;> simp [freshnessExpired, ha, hf, hq]
  have hchanged : Quality.stale ≠ (s.mirror.get p).quality := by
    rcases hq with hq | hq <;> simp [hq]
  rw [hstale, passOn_of_quality_ne _ (by simpa using hchanged)]
  simp

/-! ### Bytes that name points, and host commands in LISTEN, RUN and ISOLATED (R168, R172) -/

theorem pointOfByte_eq_some_iff {b : Byte} {p : Point} : pointOfByte b = some p ↔ b.toNat = p.val := by
  unfold pointOfByte
  split
  · simp [Fin.ext_iff]
  · simp; omega

theorem pointOfByte_eq_none_iff {b : Byte} : pointOfByte b = none ↔ 64 ≤ b.toNat := by
  simp [pointOfByte]

theorem hostCommand_of_ready {s : State} (h : Ready s) (f : State → State) : hostCommand f s = f s := by
  obtain ⟨hreset, hwaiting⟩ := h
  simp [hostCommand, hreset, hwaiting]

section

variable {α : Type} {s : State}

theorem inRuntime_of_not_runtime (h : s.control.state.runtime = false) (arg : Option α) (f : α → State → State) :
    inRuntime arg f s = s.answer statusBadState := by
  simp [inRuntime, h]

theorem inRuntime_none (h : s.control.state.runtime = true) (f : α → State → State) :
    inRuntime none f s = s.answer statusBadArgument := by
  simp [inRuntime, h]

theorem inRuntime_some (h : s.control.state.runtime = true) (a : α) (f : α → State → State) :
    inRuntime (some a) f s = f a s := by
  simp [inRuntime, h]

end

/-! ### CLEAR-LATCH (R19) -/

/-- CLEAR-LATCH that the management port takes. -/
theorem exec_clearLatch_of_ready {s : State} (h : Ready s) (b : Byte) :
    exec (.clearLatch b) s = .next (clearLatchCommand b s) := by
  rw [← hostCommand_of_ready h (clearLatchCommand b)]
  rfl

/-- The latch that holds a hit's side alone, member by member. -/
theorem Latch.ofHit_eq (h : Hit) :
    Latch.ofHit h = { high := h == .side .high, low := h == .side .low, inside := h == .side .inside } := by
  cases h with
  | none => rfl
  | clear => rfl
  | side x => cases x <;> rfl

end Sys2Proof.Machine

namespace Sys2Proof.Proofs

open Sys2Proof.Machine Sys2Proof.Safety

/-- Settles O15: the entry that the expiry leaves is STALE, so its quality differs from the GOOD or FAULTED that was passed
on with it, and the change of quality reaches the voter and the Publisher. -/
theorem freshnessExpiryMakesStale : Obligations.FreshnessExpiryMakesStale := by
  intro s p ha hf e
  rw [exec_freshnessExpiry]
  refine ⟨fun hq => ?_, fun hq => ?_⟩
  · rw [freshnessExpired_of_none_or_stale ha hf hq]
    rfl
  · extract_lets s1
    have hexpired : freshnessExpired p s = if e.owner = some s.own then makeDue p s1 else s1 :=
      freshnessExpired_of_good_or_faulted ha hf hq
    exact ⟨fun ho => by rw [hexpired, if_neg ho], fun ho => by rw [hexpired, if_pos ho]⟩

/-- Settles O16, along the checks of R168 in their order: the station state, the point's number, the entry in use. -/
theorem clearLatch : Obligations.ClearLatch := by
  intro s b hready
  rw [exec_clearLatch_of_ready hready, clearLatchCommand]
  refine ⟨fun hconfig => ?_, fun hrun => ⟨fun hb => ?_, fun p hb => ⟨fun hunused => ?_, fun hused => ?_⟩⟩⟩
  · rw [inRuntime_of_not_runtime hconfig]
    rfl
  · rw [pointOfByte_eq_none_iff.mpr hb, inRuntime_none hrun]
    rfl
  · rw [pointOfByte_eq_some_iff.mpr hb, inRuntime_some hrun, hunused]
    rfl
  · rw [pointOfByte_eq_some_iff.mpr hb, inRuntime_some hrun, if_pos hused, Machine.clearLatch, Latch.ofHit_eq]
    rfl

end Sys2Proof.Proofs

end

/-! The rules of the Limit Evaluator (chapter 2): the condition side and the release zone as the tables of R32 and R35 give
them, what one sample does to a context in each case of R33 to R38, and the statement about one sample. -/

section

namespace Sys2Proof.Machine

open Sys2Proof.Safety

/-! ### The condition side and the release zone (R32, R35) -/

section

variable {d : PointDesc} {v : Int}

/-- The condition side is the side whose condition the value meets. In OUTSIDE mode both sides stand in the table, and the
order of the limits makes them exclude each other. -/
theorem conditionSide_eq_some_iff (hlimits : d.compare = .outside → d.lower.toInt < d.upper.toInt) (x : Side) :
    conditionSide d v = some x ↔ meets d x v := by
  cases hmode : d.compare with
  | above => cases x <;> simp [conditionSide, meets, hmode]
  | below => cases x <;> simp [conditionSide, meets, hmode]
  | inside => cases x <;> simp [conditionSide, meets, hmode]
  | outside =>
    have hlt := hlimits hmode
    simp only [conditionSide, meets, hmode]
    split
    next habove =>
      have hnotBelow : ¬ v < d.lower.toInt := by omega
      cases x <;> simp [habove, hnotBelow]
    next hnotAbove => cases x <;> simp [hnotAbove]

theorem conditionSide_eq_none_iff (hlimits : d.compare = .outside → d.lower.toInt < d.upper.toInt) :
    conditionSide d v = none ↔ ∀ x, ¬ meets d x v := by
  simp [Option.eq_none_iff_forall_ne_some, conditionSide_eq_some_iff hlimits]

/-- A limit less the margin can leave the signed range only below. -/
theorem limited_sub (h : Half) (margin : Nat) : limited (h.toInt - margin) = max (-32768) (h.toInt - margin) := by
  have hle := BitVec.toInt_lt (x := h)
  unfold limited
  omega

/-- A limit plus the margin can leave the signed range only above. -/
theorem limited_add (h : Half) (margin : Nat) : limited (h.toInt + margin) = min 32767 (h.toInt + margin) := by
  have hge := BitVec.le_toInt h
  unfold limited
  omega

theorem inReleaseZone_iff (x : Side) : inReleaseZone d x v = true ↔ inZone d x v := by
  cases x <;> simp only [inReleaseZone, inZone, limited_sub, limited_add, decide_eq_true_eq, Bool.and_eq_true]

theorem heldInZone_iff (h : Hit) : heldInZone d h v = true ↔ ∃ x, h = .side x ∧ inZone d x v := by
  cases h <;> simp [heldInZone, inReleaseZone_iff]

theorem heldInZone_eq_false_iff (h : Hit) : heldInZone d h v = false ↔ ∀ x, h = .side x → ¬ inZone d x v := by
  simp [← Bool.not_eq_true, heldInZone_iff]

end

/-! ### The counts of R36 and R38 -/

section

variable {d : PointDesc} {c : Context}

theorem countClear_of_reached (hn : min (c.clearProgress + 1) d.clearCount = d.clearCount) (hhit : c.hit ≠ .clear) :
    countClear d c = { c with hit := .clear, candidate := none, assertProgress := 0, clearProgress := 0 } := by
  simp only [countClear, if_pos (And.intro hn hhit)]

theorem countClear_of_not_reached (h : min (c.clearProgress + 1) d.clearCount ≠ d.clearCount ∨ c.hit = .clear) :
    countClear d c =
      { c with candidate := none, assertProgress := 0, clearProgress := min (c.clearProgress + 1) d.clearCount } := by
  have hnot : ¬ (min (c.clearProgress + 1) d.clearCount = d.clearCount ∧ c.hit ≠ .clear) := by tauto
  simp only [countClear, if_neg hnot]

theorem countAssert_of_reached {x : Side}
    (hn : d.assertCount ≤ if c.candidate = some x then c.assertProgress + 1 else 1) :
    countAssert d x c = { c with hit := .side x, candidate := none, assertProgress := 0, clearProgress := 0 } := by
  simp only [countAssert, if_pos hn]

theorem countAssert_of_not_reached {x : Side}
    (hn : (if c.candidate = some x then c.assertProgress + 1 else 1) < d.assertCount) :
    countAssert d x c =
      { c with
        candidate := some x, clearProgress := 0
        assertProgress := if c.candidate = some x then c.assertProgress + 1 else 1 } := by
  simp only [countAssert, if_neg (Nat.not_le.mpr hn)]

end

/-! ### The cases of one sample (R33, R34, R36, R37, R38) -/

section

variable {d : PointDesc} {w : SampleWord} {c : Context}

theorem evaluateSample_of_fault (hf : w.fault = true) : evaluateSample d w c = evaluateFaultFlag c := by
  simp [evaluateSample, hf]

theorem evaluateSample_of_valueOnly (hf : w.fault = false) (hp : d.publish = .valueOnly) :
    evaluateSample d w c = evaluateValueOnly c w.value := by
  simp [evaluateSample, hf, hp]

theorem evaluateSample_of_limits (hf : w.fault = false) (hp : d.publish ≠ .valueOnly) :
    evaluateSample d w c = evaluateLimits d c w.value := by
  simp [evaluateSample, hf, hp]

end

section

variable {d : PointDesc} {c : Context} {v : Half}

theorem evaluateLimits_of_held (hc : conditionSide d v.toInt = none) (hz : heldInZone d c.hit v.toInt = true) :
    evaluateLimits d c v = { c with quality := .good, lastValue := some v } := by
  simp only [evaluateLimits, hc, hz, if_true]

theorem evaluateLimits_of_clearing (hc : conditionSide d v.toInt = none) (hz : heldInZone d c.hit v.toInt = false) :
    evaluateLimits d c v = countClear d { c with quality := .good, lastValue := some v } := by
  simp [evaluateLimits, hc, hz]

theorem evaluateLimits_of_confirmed {x : Side} (hc : conditionSide d v.toInt = some x) (hhit : c.hit = .side x) :
    evaluateLimits d c v = confirmHit { c with quality := .good, lastValue := some v } := by
  simp only [evaluateLimits, hc, if_pos hhit]

theorem evaluateLimits_of_asserting {x : Side} (hc : conditionSide d v.toInt = some x) (hhit : c.hit ≠ .side x) :
    evaluateLimits d c v = countAssert d x { c with quality := .good, lastValue := some v } := by
  simp only [evaluateLimits, hc, if_neg hhit]

end

end Sys2Proof.Machine

namespace Sys2Proof.Proofs

open Sys2Proof.Machine Sys2Proof.Safety

/-- Settles O14, along the branches of the evaluation: the table of R32 gives the condition side, that of R35 tells a held
sample from one that counts towards clearing, and the count of R36 or R38 is reached or not. -/
theorem debounceStep : Obligations.DebounceStep := by
  intro d w c v good
  refine ⟨evaluateSample_of_fault, evaluateSample_of_valueOnly, fun hf hp hlimits => ?_⟩
  rw [evaluateSample_of_limits hf hp]
  refine ⟨fun x hnone hhit hzone => ?held, fun n hnone hzone hn => ?clearing, fun x hx hhit => ?confirmed,
    fun x n hx hhit hn => ?asserting⟩
  case held =>
    exact evaluateLimits_of_held ((conditionSide_eq_none_iff hlimits).mpr hnone)
      ((heldInZone_iff c.hit).mpr ⟨x, hhit, hzone⟩)
  case clearing =>
    subst hn
    rw [evaluateLimits_of_clearing ((conditionSide_eq_none_iff hlimits).mpr hnone)
      ((heldInZone_eq_false_iff c.hit).mpr hzone)]
    exact ⟨countClear_of_reached (c := good), countClear_of_not_reached (c := good)⟩
  case confirmed =>
    exact evaluateLimits_of_confirmed ((conditionSide_eq_some_iff hlimits x).mpr hx) hhit
  case asserting =>
    subst hn
    rw [evaluateLimits_of_asserting ((conditionSide_eq_some_iff hlimits x).mpr hx) hhit]
    exact ⟨countAssert_of_reached (c := good), countAssert_of_not_reached (c := good)⟩

end Sys2Proof.Proofs

end

/-! The rules of the Group Voter (chapter 3) about counting: how a member votes, what the counts of a record say, which groups
a point passed to the voter has evaluated, and the statement about votes. -/

section

namespace Sys2Proof.Machine

/-! ### The vote of a member (R49) -/

/-- A member without good content votes by the stale policy, whatever hit it keeps. -/
theorem memberVote_of_not_good_or_no_hit (policy : StalePolicy) {q : Quality} {h : Hit} (hqh : q ≠ .good ∨ h = .none) :
    memberVote policy q h = policy.vote := by
  cases q with
  | good =>
    obtain rfl := hqh.resolve_left (fun hne => hne rfl)
    rfl
  | none | faulted | stale => rfl

/-! ### What the counts of a record say (R50) -/

theorem satisfied_iff (d : GroupDesc) (r : GroupRecord) :
    satisfied d r = true ↔ 0 < countedSize d r ∧ min d.k (countedSize d r) ≤ r.hitVotes := by
  simp [satisfied, required]

theorem noBasis_iff (d : GroupDesc) (r : GroupRecord) : noBasis d r = true ↔ countedSize d r = 0 := by
  simp [noBasis]

theorem not_noBasis_of_satisfied {d : GroupDesc} {r : GroupRecord} (h : satisfied d r = true) : ¬ noBasis d r = true := by
  rw [noBasis_iff]
  exact ((satisfied_iff d r).mp h).1.ne'

/-! ### Which groups a change evaluates (R44, R51) -/

theorem evaluate_of_unused {g : Group} {s : State} (h : (s.groupDesc g).used = false) : evaluate g s = s := by
  simp [evaluate, h]

/-- An evaluation leaves every group's descriptor as it is: the descriptors are read from the image alone. -/
@[simp] theorem evaluate_groupDesc (g g' : Group) (s : State) : (evaluate g s).groupDesc g' = s.groupDesc g' := by
  simp only [State.groupDesc, (evaluate_voterStep g s).control]

/-- When no step alters a guard, a fold that tests it in each running state takes exactly the steps whose guard holds in the
first state. -/
theorem foldl_guarded_eq_foldl_filter {α σ : Type} {guard : σ → α → Bool} {f : σ → α → σ}
    (hkeep : ∀ t a, guard (f t a) = guard t) (l : List α) (s : σ) :
    l.foldl (fun t a => if guard t a then f t a else t) s = (l.filter (guard s)).foldl f s := by
  induction l generalizing s with
  | nil => rfl
  | cons a l ih =>
    rw [List.foldl_cons, ih]
    cases ha : guard s a with
    | true => simp [ha, hkeep]
    | false => simp [ha]

/-- The groups that a point passed to the voter has evaluated are settled before the first evaluation. -/
theorem passToVoter_eq_foldl_evaluate (p : Point) (s : State) :
    passToVoter p s =
      ((List.finRange 16).filter
        (fun g => (s.groupDesc g).used && (s.groupDesc g).members.contains p)).foldl (fun t g => evaluate g t) s := by
  rw [passToVoter, foldl_guarded_eq_foldl_filter
    (guard := fun t g => (t.groupDesc g).used && (t.groupDesc g).members.contains p)
    (f := fun t g => evaluate g t) (fun t g => by simp only [evaluate_groupDesc])]

end Sys2Proof.Machine

namespace Sys2Proof.Proofs

open Sys2Proof.Machine

/-- Settles O18: a vote follows from the quality and hit of the member's content, what the counts say from the counted size,
and the groups evaluated are those that the image names, since no evaluation changes the image. -/
theorem votesCounted : Obligations.VotesCounted := by
  refine ⟨⟨fun x policy => rfl, fun policy => rfl, fun q h hqh => ?votes, fun d r => ?counts⟩,
    passToVoter_eq_foldl_evaluate, fun g s => evaluate_of_unused⟩
  case votes =>
    simp only [memberVote_of_not_good_or_no_hit _ hqh]
    exact ⟨rfl, rfl, rfl⟩
  case counts =>
    exact ⟨satisfied_iff d r, noBasis_iff d r, fun ⟨hsat, hbasis⟩ => not_noBasis_of_satisfied hsat hbasis⟩

end Sys2Proof.Proofs

end

/-! The host command RELEASE (R105): the groups that a byte names, what the urgent queue does with a request offered, each
answer of RELEASE with the check that gives it, and the statement about the command. -/

section

namespace Sys2Proof.Machine

open Sys2Proof.Safety

/-! ### Bytes that name groups (R168) -/

theorem groupOfByte_eq_some_iff {b : Byte} {g : Group} : groupOfByte b = some g ↔ b.toNat = g.val := by
  unfold groupOfByte
  split
  · simp [Fin.ext_iff]
  · simp; omega

theorem groupOfByte_eq_none_iff {b : Byte} : groupOfByte b = none ↔ 16 ≤ b.toNat := by
  simp [groupOfByte]

/-! ### A request offered to the urgent queue (R133) -/

section

variable {q : List Request} {r : Request}

theorem offerTo_of_mem (h : r ∈ q) : offerTo q r = some q := by
  simp [offerTo, h]

theorem offerTo_of_room (h : r ∉ q) (hroom : q.length < 8) : offerTo q r = some (q ++ [r]) := by
  simp [offerTo, h, Config.urgentCapacity, hroom]

theorem offerTo_of_full (h : r ∉ q) (hfull : 8 ≤ q.length) : offerTo q r = none := by
  simp [offerTo, h, Config.urgentCapacity, hfull.not_gt]

end

/-! ### RELEASE of a group in RUN (R105) -/

section

variable {s : State} {g : Group}

theorem releaseGroup_of_not_tripped (h : (s.voter.groups.get g).state ≠ .tripped) :
    releaseGroup g s = s.answer (statusRefused .notTripped) := by
  simp [releaseGroup, h]

theorem releaseGroup_of_satisfied (h : (s.voter.groups.get g).state = .tripped)
    (hsat : satisfied (s.groupDesc g) (s.voter.groups.get g) = true) :
    releaseGroup g s = s.answer (statusRefused .satisfied) := by
  simp [releaseGroup, h, hsat]

/-- A group without basis is not satisfied, so the check before this one does not answer for it. -/
theorem releaseGroup_of_noBasis (h : (s.voter.groups.get g).state = .tripped)
    (hbasis : noBasis (s.groupDesc g) (s.voter.groups.get g) = true) :
    releaseGroup g s = s.answer (statusRefused .noBasis) := by
  have hsat : ¬ satisfied (s.groupDesc g) (s.voter.groups.get g) = true :=
    fun hsat => not_noBasis_of_satisfied hsat hbasis
  simp [releaseGroup, h, hsat, hbasis]

/-! A release that the votes allow is offered to the urgent queue, which decides the answer. -/

section

variable (htripped : (s.voter.groups.get g).state = .tripped)
  (hsat : satisfied (s.groupDesc g) (s.voter.groups.get g) = false)
  (hbasis : noBasis (s.groupDesc g) (s.voter.groups.get g) = false)

include htripped hsat hbasis

theorem releaseGroup_of_offer_taken {q : List Request} (hoffer : offerTo s.link.urgent (.release g) = some q) :
    releaseGroup g s = (s.withUrgent q).answer (statusOk []) := by
  simp [releaseGroup, htripped, hsat, hbasis, hoffer]

theorem releaseGroup_of_offer_refused (hoffer : offerTo s.link.urgent (.release g) = none) :
    releaseGroup g s = s.answer statusBusy := by
  simp [releaseGroup, htripped, hsat, hbasis, hoffer]

end

end

/-! ### RELEASE (R105, R168) -/

section

variable {s : State} {b : Byte}

/-- RELEASE that the management port takes. -/
theorem exec_release_of_ready (h : Ready s) (b : Byte) : exec (.release b) s = .next (releaseCommand b s) := by
  rw [← hostCommand_of_ready h (releaseCommand b)]
  rfl

theorem releaseCommand_of_not_run (h : s.control.state ≠ .run) (b : Byte) :
    releaseCommand b s = s.answer statusBadState := by
  simp [releaseCommand, h]

theorem releaseCommand_of_no_group (h : s.control.state = .run) (hb : 16 ≤ b.toNat) :
    releaseCommand b s = s.answer statusBadArgument := by
  simp [releaseCommand, h, groupOfByte_eq_none_iff.mpr hb]

theorem releaseCommand_of_group {g : Group} (h : s.control.state = .run) (hb : b.toNat = g.val) :
    releaseCommand b s = releaseGroup g s := by
  simp [releaseCommand, h, groupOfByte_eq_some_iff.mpr hb]

end

end Sys2Proof.Machine

namespace Sys2Proof.Proofs

open Sys2Proof.Machine Sys2Proof.Safety

/-- Settles O54, along the checks of R105 in their order: the station state, the group's number, the group's state, its
votes, its basis, and the room in the urgent queue. -/
theorem releaseCommand : Obligations.ReleaseCommand := by
  intro s x hready
  rw [exec_release_of_ready hready]
  refine ⟨fun hstate => ?state, fun hrun => ⟨fun hx => ?number, fun g hx => ?_⟩⟩
  case state => rw [releaseCommand_of_not_run hstate]; rfl
  case number => rw [releaseCommand_of_no_group hrun hx]; rfl
  rw [releaseCommand_of_group hrun hx]
  refine ⟨fun hstanding => ?standing, fun htripped => ⟨fun hsat => ?votes, fun hbasis => ?basis, fun hsat hbasis => ?_⟩⟩
  case standing => rw [releaseGroup_of_not_tripped hstanding]; rfl
  case votes => rw [releaseGroup_of_satisfied htripped hsat]; rfl
  case basis => rw [releaseGroup_of_noBasis htripped hbasis]; rfl
  refine ⟨fun hqueued => ?queued, fun hnew hroom => ?room, fun hnew hfull => ?full⟩
  case queued => rw [releaseGroup_of_offer_taken htripped hsat hbasis (offerTo_of_mem hqueued)]; rfl
  case room => rw [releaseGroup_of_offer_taken htripped hsat hbasis (offerTo_of_room hnew hroom)]; rfl
  case full => rw [releaseGroup_of_offer_refused htripped hsat hbasis (offerTo_of_full hnew hfull)]; rfl

end Sys2Proof.Proofs

end

/-! The host command START (R148): what the Station Controller does with it in each row of the table, and the statement about
the command. -/

section

namespace Sys2Proof.Machine

open Sys2Proof.Safety

section

variable {s : State}

/-- START that the management port takes. -/
theorem exec_start_of_ready (h : Ready s) : exec .start s = .next (startStation s) := by
  rw [← hostCommand_of_ready h startStation]
  rfl

/-! ### The rows of the table of R148 -/

theorem startStation_of_image (h : s.control.state = .config) (himage : s.control.imagePresent = true) :
    startStation s =
      { s with control := { s.control with state := .validating, startError := .none } }.answer (statusOk []) := by
  simp [startStation, h, himage]

theorem startStation_of_no_image (h : s.control.state = .config) (himage : s.control.imagePresent = false) :
    startStation s =
      { s with control := { s.control with startError := .noImage } }.answer (statusRefused .noImage) := by
  simp [startStation, h, himage]

theorem startStation_of_validating (h : s.control.state = .validating) : startStation s = s.answer statusBusy := by
  simp [startStation, h]

theorem startStation_of_runtime (h : s.control.state.runtime = true) : startStation s = s.answer statusBadState := by
  cases hstate : s.control.state with
  | config | validating => simp [hstate, StationState.runtime] at h
  | listen | run | isolated => simp [startStation, hstate]

end

end Sys2Proof.Machine

namespace Sys2Proof.Proofs

open Sys2Proof.Machine Sys2Proof.Safety

/-- Settles O5, row by row of the table of R148: the station state, and in CONFIG whether an image is present. -/
theorem startAnswers : Obligations.StartAnswers := by
  intro s hready
  rw [exec_start_of_ready hready]
  refine ⟨fun hconfig himage => ?image, fun hconfig himage => ?noImage, fun hvalidating => ?validating,
    fun hruntime => ?runtime⟩
  case image => rw [startStation_of_image hconfig himage]; rfl
  case noImage => rw [startStation_of_no_image hconfig himage]; rfl
  case validating => rw [startStation_of_validating hvalidating]; rfl
  case runtime => rw [startStation_of_runtime hruntime]; rfl

end Sys2Proof.Proofs

end

/-! What the commands of a runtime can do, said once: a command's effect is a chain of moves, each with the conditions that the
commands give it, so that a law of the device needs one argument for each kind of move. -/

section

namespace Sys2Proof.Machine

open Sys2Proof.Safety Relation

/-! ### The moves of one group (chapter 3) -/

/-- The law of one group record: the confirm timer, the cause and the owed mark go with the state (R46, R53, R60). -/
def GroupRecord.Fits (r : GroupRecord) : Prop :=
  (r.confirm ≠ .stopped ↔ r.state = .arming) ∧ (r.cause ≠ none ↔ r.state = .tripped) ∧
    (r.announceOwed = true → r.state = .tripped)

theorem groupLaw_iff_fits (s : State) : GroupLaw s ↔ ∀ g, (s.voter.groups.get g).Fits := Iff.rfl

/-- The record `t` stands TRIPPED as `r` does, with the same cause and stamp. -/
def GroupRecord.SameTrip (r t : GroupRecord) : Prop := t.state = .tripped ∧ t.cause = r.cause ∧ t.stamp = r.stamp

/-- The three counts of a record are those of another. -/
def GroupRecord.SameCounts (r t : GroupRecord) : Prop :=
  t.hitVotes = r.hitVotes ∧ t.clearVotes = r.clearVotes ∧ t.excluded = r.excluded

/-- One move of group `g`, its counts kept. `F` names the groups that may leave TRIPPED. -/
inductive GroupMove (F : Group → Prop) (g : Group) (s : State) : State → Prop
  | raise (e : Event) : GroupMove F g s (raise e s)
  | enqueue {r : Request} {q : List Request} (taken : offerTo s.link.urgent r = some q) : GroupMove F g s (s.withUrgent q)
  | owe (b : Bool) (tripped : b = true → (s.voter.groups.get g).state = .tripped) :
      GroupMove F g s (s.setGroup g { s.voter.groups.get g with announceOwed := b })
  | place (r : GroupRecord) (counts : (s.voter.groups.get g).SameCounts r)
      (fits : (s.voter.groups.get g).Fits → r.Fits)
      (latched : (s.voter.groups.get g).state = .tripped → (s.voter.groups.get g).SameTrip r ∨ F g) :
      GroupMove F g s (setLines (s.setGroup g r))

/-- A chain of moves of one group. -/
abbrev GroupMoves (F : Group → Prop) (g : Group) : State → State → Prop := ReflTransGen (GroupMove F g)

variable {F : Group → Prop} {g : Group} {s t : State}

theorem GroupMove.voterStep (h : GroupMove F g s t) : VoterStep s t := by
  cases h with
  | raise e => exact raise_voterStep e s
  | enqueue taken => exact withUrgent_voterStep _ s
  | owe b tripped => exact setGroup_voterStep g _ s
  | place r counts fits latched => exact (setGroup_voterStep g r s).trans (setLines_voterStep _)

theorem GroupMoves.voterStep (h : GroupMoves F g s t) : VoterStep s t := by
  induction h with
  | refl => exact .refl s
  | tail _ hm ih => exact ih.trans hm.voterStep

@[simp] theorem setLines_groups (s : State) : (setLines s).voter.groups = s.voter.groups := rfl

/-- A move of group `g` leaves the record of every other group. -/
theorem GroupMove.others (h : GroupMove F g s t) {k : Group} (hk : k ≠ g) :
    t.voter.groups.get k = s.voter.groups.get k := by
  cases h <;> simp [hk]

theorem GroupMoves.others (h : GroupMoves F g s t) {k : Group} (hk : k ≠ g) :
    t.voter.groups.get k = s.voter.groups.get k := by
  induction h with
  | refl => rfl
  | tail _ hm ih => rw [hm.others hk, ih]

theorem GroupRecord.SameCounts.refl (r : GroupRecord) : r.SameCounts r := ⟨rfl, rfl, rfl⟩

theorem GroupRecord.SameCounts.trans {r t u : GroupRecord} (h : r.SameCounts t) (k : t.SameCounts u) : r.SameCounts u :=
  ⟨k.1.trans h.1, k.2.1.trans h.2.1, k.2.2.trans h.2.2⟩

theorem GroupMove.counts (h : GroupMove F g s t) : (s.voter.groups.get g).SameCounts (t.voter.groups.get g) := by
  cases h with
  | raise e => simpa using GroupRecord.SameCounts.refl _
  | enqueue taken => simpa using GroupRecord.SameCounts.refl _
  | owe b tripped => simp [GroupRecord.SameCounts]
  | place r counts fits latched => simpa using counts

theorem GroupMoves.counts (h : GroupMoves F g s t) : (s.voter.groups.get g).SameCounts (t.voter.groups.get g) := by
  induction h with
  | refl => exact .refl _
  | tail _ hm ih => exact ih.trans hm.counts

theorem GroupMove.fits (h : GroupMove F g s t) (hs : (s.voter.groups.get g).Fits) : (t.voter.groups.get g).Fits := by
  cases h with
  | raise e => simpa using hs
  | enqueue taken => simpa using hs
  | owe b tripped =>
    obtain ⟨hconfirm, hcause, -⟩ := hs
    simpa [GroupRecord.Fits, hconfirm, hcause] using tripped
  | place r counts fits latched => simpa using fits hs

theorem GroupMoves.fits (h : GroupMoves F g s t) (hs : (s.voter.groups.get g).Fits) : (t.voter.groups.get g).Fits := by
  induction h with
  | refl => exact hs
  | tail _ hm ih => exact hm.fits ih

/-- A group that may not leave TRIPPED keeps its trip. -/
theorem GroupMove.sameTrip (h : GroupMove F g s t) (hF : ¬ F g) (hs : (s.voter.groups.get g).state = .tripped) :
    (s.voter.groups.get g).SameTrip (t.voter.groups.get g) := by
  cases h with
  | raise e => simp [GroupRecord.SameTrip, hs]
  | enqueue taken => simp [GroupRecord.SameTrip, hs]
  | owe b tripped => simp [GroupRecord.SameTrip, hs]
  | place r counts fits latched => simpa using (latched hs).resolve_right hF

theorem GroupMoves.sameTrip (h : GroupMoves F g s t) (hF : ¬ F g) (hs : (s.voter.groups.get g).state = .tripped) :
    (s.voter.groups.get g).SameTrip (t.voter.groups.get g) := by
  induction h with
  | refl => exact ⟨hs, rfl, rfl⟩
  | tail _ hm ih =>
    obtain ⟨hstate, hcause, hstamp⟩ := hm.sameTrip hF ih.1
    exact ⟨hstate, hcause.trans ih.2.1, hstamp.trans ih.2.2⟩

/-! ### The operations of the Group Voter as moves of a group -/

theorem enterState_groupMove {st : GroupState} (hst : st = .clear ∨ st = .fault)
    (hs : (s.voter.groups.get g).state = .tripped → F g) : GroupMove F g s (enterState g st s) := by
  refine .place _ ⟨rfl, rfl, rfl⟩ (fun _ => ?_) (fun htripped => .inr (hs htripped))
  rcases hst with rfl | rfl <;> simp [GroupRecord.Fits]

theorem enterArming_groupMove (hs : (s.voter.groups.get g).state = .clear) : GroupMove F g s (enterArming g s) := by
  refine .place _ ⟨rfl, rfl, rfl⟩ (fun hfits => ?_) (by simp [hs])
  obtain ⟨-, -, howed⟩ := hfits
  simpa [GroupRecord.Fits, hs] using howed

theorem announce_groupMove (hs : (s.voter.groups.get g).state = .tripped) : GroupMove F g s (announce g s) := by
  unfold announce
  split
  next q hq => exact .enqueue hq
  next => exact .owe true (fun _ => hs)

/-- The state in which a group is announced after its trip: its record, the lines and the events are settled. -/
theorem enterTripped_groupMoves {c : Cause} (hs : (s.voter.groups.get g).state ≠ .tripped) :
    GroupMoves F g s (enterTripped g c s) := by
  unfold enterTripped
  extract_lets r s1 s2 s3
  have h1 : GroupMoves F g s s1 := .single (.place _ ⟨rfl, rfl, rfl⟩ (fun _ => by simp [GroupRecord.Fits]) (fun h => absurd h hs))
  have h2 : GroupMoves F g s s2 := by
    by_cases hf : (s.voter.groups.get g).state = .fault
    · simpa [s2, hf] using h1.tail (.raise _)
    · simpa [s2, hf] using h1
  have h3 : GroupMoves F g s s3 := h2.tail (.raise _)
  have htripped : (s3.voter.groups.get g).state = .tripped := by
    simp only [s3, s2]
    split <;> simp [s1]
  split
  · exact h3.tail (announce_groupMove htripped)
  · exact h3

theorem enterFault_groupMoves (hs : (s.voter.groups.get g).state ≠ .tripped) : GroupMoves F g s (enterFault g s) :=
  .tail (.single (enterState_groupMove (.inr rfl) (fun h => absurd h hs))) (.raise _)

theorem evaluateClear_groupMoves (hs : (s.voter.groups.get g).state = .clear) :
    GroupMoves F g s (evaluateClear g s) := by
  unfold evaluateClear
  extract_lets d r
  split
  · split
    · exact enterTripped_groupMoves (by simp [hs])
    · exact .single (enterArming_groupMove hs)
  · split
    · exact enterFault_groupMoves (by simp [hs])
    · exact .refl

theorem evaluateArming_groupMoves (hs : (s.voter.groups.get g).state = .arming) :
    GroupMoves F g s (evaluateArming g s) := by
  unfold evaluateArming
  extract_lets d r
  split
  · exact .refl
  · split
    · exact enterFault_groupMoves (by simp [hs])
    · exact .single (enterState_groupMove (.inl rfl) (by simp [hs]))

@[simp] theorem enterState_record (g : Group) (st : GroupState) (s : State) :
    (enterState g st s).voter.groups.get g =
      { s.voter.groups.get g with
        state := st, cause := none, confirm := .stopped, stamp := s.events.time, announceOwed := false } := by
  simp [enterState]

theorem evaluateFault_groupMoves (hs : (s.voter.groups.get g).state = .fault) :
    GroupMoves F g s (evaluateFault g s) := by
  unfold evaluateFault
  split
  · exact .refl
  · have hclear : GroupMoves F g s (Machine.raise (.groupFaultEnded g) (enterState g .clear s)) :=
      .tail (.single (enterState_groupMove (.inl rfl) (by simp [hs]))) (.raise _)
    exact hclear.trans (evaluateClear_groupMoves (by simp))

/-- The state in which a group's rule is applied: its record holds the counts of the mirror as it stands (R51). -/
def counted (g : Group) (s : State) : State :=
  s.setGroup g ((s.voter.groups.get g).count (votes (s.groupDesc g) s.mirror))

/-- The rule of a group's present state (R52, R53, R57). -/
def settle (g : Group) (s : State) : State :=
  match (s.voter.groups.get g).state with
  | .clear => evaluateClear g s
  | .arming => evaluateArming g s
  | .fault => evaluateFault g s
  | .tripped => s

/-- An evaluation of a used group counts, and then applies the rule of the group's state (R51). -/
theorem evaluate_of_used (h : (s.groupDesc g).used = true) : evaluate g s = settle g (counted g s) := by
  have hstate : ((counted g s).voter.groups.get g).state = (s.voter.groups.get g).state := by
    simp [counted, GroupRecord.count]
  unfold evaluate settle
  simp only [h, if_true, hstate]
  cases (s.voter.groups.get g).state <;> rfl

theorem settle_groupMoves (g : Group) (s : State) : GroupMoves F g s (settle g s) := by
  unfold settle
  split
  next hs => exact evaluateClear_groupMoves hs
  next hs => exact evaluateArming_groupMoves hs
  next hs => exact evaluateFault_groupMoves hs
  next => exact .refl

@[simp] theorem counted_record (g : Group) (s : State) :
    (counted g s).voter.groups.get g = (s.voter.groups.get g).count (votes (s.groupDesc g) s.mirror) := by
  simp [counted]

theorem counted_others {k : Group} (hk : k ≠ g) (s : State) :
    (counted g s).voter.groups.get k = s.voter.groups.get k := by simp [counted, hk]

theorem counted_voterStep (g : Group) (s : State) : VoterStep s (counted g s) := setGroup_voterStep g _ s

end Sys2Proof.Machine

end

section

namespace Sys2Proof.Machine

open Sys2Proof.Safety Relation

/-! ### The moves of the device -/

/-- The entry of a point replaced, its owner and epoch kept (R14 to R22). -/
structure EntryMove (s : State) (p : Point) (e : MirrorEntry) : Prop where
  inUse : e.inUse = (s.mirror.get p).inUse
  owner : e.owner = (s.mirror.get p).owner
  epoch : e.epoch = (s.mirror.get p).epoch
  age : e.age ≤ (s.mirror.get p).age
  live : OwnerLaw s → s.control.state.runtime = true → (s.mirror.get p).inUse = true
  fits : ContentLaw s → s.control.state.runtime = true → (s.mirror.get p).inUse = true →
    contentFits (s.desc p).publish e = true

/-- The owner and epoch that an accepted assertion gives (R66 to R69). -/
structure OwnMove (s : State) (p : Point) (o : Station) (e : Epoch) : Prop where
  inUse : (s.mirror.get p).inUse = true
  serves : (s.desc p).serves o = true
  epoch : (s.mirror.get p).epoch ≤ e

/-- The contexts replaced, each bound to its point in its role, and within what its rules reach (R28, R30). -/
structure ContextsMove (s : State) (x : Table 8 Context) : Prop where
  point : ∀ i, (x.get i).point = (s.contexts.get i).point
  role : ∀ i, (x.get i).role = (s.contexts.get i).role
  fits : validate s.control.image = .none → ∀ i p, (x.get i).point = some p → (s.desc p).used = true →
    debounceFits (s.desc p) (s.contexts.get i) = true → sampleFits (s.contexts.get i) = true →
    debounceFits (s.desc p) (x.get i) = true ∧ sampleFits (x.get i) = true

/-- A custody entry that replaces another: the point and the role are kept, and so are the fields its role does not have
(R74). -/
structure EntryKept (c c' : CustodyEntry) : Prop where
  point : c'.point = c.point
  role : c'.role = c.role
  fits : custodyFits c = true → custodyFits c' = true

/-- The custody table replaced, entry by entry (R74). -/
def TableMove (t t' : Table 8 (Option CustodyEntry)) : Prop := ∀ i, Option.Rel EntryKept (t.get i) (t'.get i)

/-- A move of the device that writes no quality or hit and takes no point from this station. `F` names the groups that may leave
TRIPPED, and `B` tells whether a frame may begin. -/
inductive Basic (F : Group → Prop) (B : Prop) (s : State) : State → Prop
  | sample (x : SampleInterface) : Basic F B s { s with sample := x }
  | events (q : EventQueue) (law : EventLaw s → EventLaw { s with events := q }) (time : q.time = s.events.time) :
      Basic F B s { s with events := q }
  | urgent (q : List Request) (law : UrgentLaw s → UrgentLaw (s.withUrgent q)) : Basic F B s (s.withUrgent q)
  | link (l : Link) (urgent : l.urgent = s.link.urgent) (law : CountLaw s → CountLaw { s with link := l })
      (frame : ∀ f, l.transmission = .frame f → s.link.transmission = .frame f ∨ B) : Basic F B s { s with link := l }
  | group {g : Group} {t : State} (moves : GroupMoves F g s t)
      (used : (s.groupDesc g).used = true ∨ s.voter.groups.get g ≠ GroupRecord.configForm)
      (standing : standingFits (s.groupDesc g) (s.voter.groups.get g) = true →
        standingFits (s.groupDesc g) (t.voter.groups.get g) = true) : Basic F B s t
  | evaluate {g : Group} {t : State} (moves : GroupMoves F g s t) (used : (s.groupDesc g).used = true)
      (state : (t.voter.groups.get g).state = (s.voter.groups.get g).state ∨
        (t.voter.groups.get g).state = .clear) : Basic F B s (evaluate g t)
  | entry (p : Point) (e : MirrorEntry) (move : EntryMove s p e) (quality : e.quality = (s.mirror.get p).quality)
      (hit : e.hit = (s.mirror.get p).hit) : Basic F B s (s.setEntry p e)
  | own (p : Point) (o : Station) (e : Epoch) (move : OwnMove s p o e)
      (kept : (s.mirror.get p).owner = some s.own → o = s.own) : Basic F B s (setOwner p o e s)
  | contexts (x : Table 8 Context) (move : ContextsMove s x) : Basic F B s { s with contexts := x }
  | notices (l : List Notice) (law : NoticeLaw s → NoticeLaw (s.withNotices l)) : Basic F B s (s.withNotices l)
  | table (t : Table 8 (Option CustodyEntry)) (move : TableMove s.custody.table t) : Basic F B s (s.withTable t)
  | publisher (pub : Publisher) (law : PublishLaw s → PublishLaw { s with publisher := pub }) :
      Basic F B s { s with publisher := pub }
  | roster (r : Roster) (law : RosterLaw s → RosterLaw { s with roster := r }) : Basic F B s { s with roster := r }
  | port (p : Port) : Basic F B s { s with port := p }

/-- A move of the device: a basic one, a content write, an entry that becomes STALE, or a point that this station loses. -/
inductive Move (F : Group → Prop) (B : Prop) (s : State) : State → Prop
  | basic {t : State} (h : Basic F B s t) : Move F B s t
  | content (p : Point) (e : MirrorEntry) (q : EventQueue) (active : s.active = true) (move : EntryMove s p e)
      (law : EventLaw s → EventLaw { s with events := q }) (time : q.time = s.events.time) :
      Move F B s (passOn p (s.mirror.get p).quality (s.mirror.get p).hit { s.setEntry p e with events := q })
  | lose (p : Point) (o : Station) (e : Epoch) (how : ReleaseDetail) (move : OwnMove s p o e)
      (own : (s.mirror.get p).owner = some s.own) (other : o ≠ s.own) : Move F B s (demote p o e how (setOwner p o e s))

/-- A chain of basic moves. -/
abbrev Basics (F : Group → Prop) (B : Prop) : State → State → Prop := ReflTransGen (Basic F B)

/-- A chain of moves. -/
abbrev Moves (F : Group → Prop) (B : Prop) : State → State → Prop := ReflTransGen (Move F B)

variable {F : Group → Prop} {B : Prop} {s t : State} {p : Point}

theorem Basics.moves (h : Basics F B s t) : Moves F B s t := h.lift id (fun _ _ => .basic)

theorem Basic.moves (h : Basic F B s t) : Moves F B s t := .single (.basic h)

/-- A chain of moves keeps what each move keeps. -/
theorem keeps_of_step {R : State → State → Prop} {L : State → Prop} (step : ∀ {s t}, R s t → L s → L t)
    (h : ReflTransGen R s t) (hs : L s) : L t := by
  induction h with
  | refl => exact hs
  | tail _ hm ih => exact step hm ih

/-! ### A change passed on as basic moves -/

theorem record_eventLaw (e : Event) (h : EventLaw s) : EventLaw { s with events := s.events.record e } := by
  obtain ⟨hlen, hattn, hover⟩ := h
  obtain ⟨hroom, hrec, hov, hat⟩ | ⟨hfull, hrec, hov, hat⟩ := s.events.record_cases e
  · refine ⟨?_, ?_, fun ho => ?_⟩
    · simp only [hrec, List.length_append, List.length_singleton]; omega
    · simp [hrec, hat]
    · have := hover (hov ▸ ho)
      omega
  · exact ⟨by simpa [hrec] using hlen, by simpa [hrec, hat] using hattn, fun _ => by simp only [hrec]; omega⟩

theorem raise_basic (e : Event) (s : State) : Basic F B s (raise e s) := by
  rw [raise_eq]
  split
  · exact .events _ (record_eventLaw e) (by simp)
  · exact .events _ id rfl

theorem passToVoter_basics (p : Point) (s : State) : Basics F B s (passToVoter p s) := by
  unfold passToVoter
  refine foldl_rel (fun _ => .refl) .trans (fun s g => ?_) _ s
  split
  next h =>
    simp only [Bool.and_eq_true] at h
    exact .single (.evaluate .refl h.1 (.inl rfl))
  next => exact .refl

/-- A due point that this station owns keeps the law of the publish list. -/
theorem makeDue_publishLaw (hp : Acts s p) (h : PublishLaw s) : PublishLaw (makeDue p s) := by
  obtain ⟨hnodup, hlist, hrec⟩ := h
  unfold makeDue
  extract_lets r
  split
  · split
    · refine ⟨hnodup, hlist, fun q hq => ?_⟩
      by_cases hqp : q = p
      · exact hqp ▸ hp
      · exact hrec q (by simpa [hqp] using hq)
    · exact ⟨hnodup, hlist, hrec⟩
  next hnew =>
    have hnew : p ∉ s.publisher.list := by simpa using hnew
    refine ⟨?_, fun q hq => ?_, hrec⟩
    · simpa [List.nodup_append, hnodup] using fun q hq (hqp : q = p) => hnew (hqp ▸ hq)
    · rcases List.mem_append.mp hq with hq | hq
      · exact hlist q hq
      · exact (List.mem_singleton.mp hq) ▸ hp

theorem makeDue_basic (hp : Acts s p) : Basic F B s (makeDue p s) := by
  obtain ⟨pub, h⟩ := makeDue_publisherStep p s
  have hlaw := makeDue_publishLaw hp
  rw [h] at hlaw ⊢
  exact .publisher pub hlaw

theorem passToPublisher_basics (q : Quality) (x : Hit) (hp : Acts s p) : Basics F B s (passToPublisher p q x s) := by
  unfold passToPublisher
  split
  · exact .single (makeDue_basic hp)
  · exact .refl

theorem Acts.of_eq (h : Acts s p) (hc : t.control = s.control) (hm : t.mirror = s.mirror) : Acts t p := by
  simpa [Acts, State.active, State.own, hc, hm] using h

/-- A change is passed on at an active station by basic moves. -/
theorem passOn_basics (q : Quality) (x : Hit) (ha : s.active = true) : Basics F B s (passOn p q x s) := by
  unfold passOn
  extract_lets e s1
  have h1 : Basics F B s s1 := by
    by_cases hc : e.quality = q ∧ e.hit = x
    · simpa [s1, hc] using ReflTransGen.refl
    · simpa [s1, hc] using passToVoter_basics p s
  have hs : VoterStep s s1 := by
    by_cases hc : e.quality = q ∧ e.hit = x
    · simpa [s1, hc] using VoterStep.refl s
    · simpa [s1, hc] using passToVoter_voterStep p s
  split
  next ho => exact h1.trans (passToPublisher_basics q x (Acts.of_eq ⟨ha, ho⟩ hs.control hs.mirror))
  next => exact h1

/-! ### What keeps a law -/

theorem State.mapCustody_tableMove {f : CustodyEntry → CustodyEntry} (hf : ∀ c, c.point = p → EntryKept c (f c)) :
    TableMove s.custody.table (s.custody.table.map (fun o => o.map (fun c => if c.point = p then f c else c))) := by
  intro i
  rw [Table.get_map]
  cases s.custody.table.get i with
  | none => exact .none
  | some c =>
    refine .some ?_
    dsimp only
    split
    next hc => exact hf c hc
    next => exact ⟨rfl, rfl, id⟩

theorem mapCustody_basic {f : CustodyEntry → CustodyEntry} (hf : ∀ c, c.point = p → EntryKept c (f c)) :
    Basic F B s (s.mapCustody p f) := .table _ (State.mapCustody_tableMove hf)

theorem demotedCustody_kept (m : List Host.Cell) (c : CustodyEntry) : EntryKept c (demotedCustody m c) := by
  refine ⟨rfl, rfl, fun h => ?_⟩
  cases hrole : c.role with
  | home => simp [custodyFits, demotedCustody, hrole]
  | standby => simpa [custodyFits, demotedCustody, hrole] using h

theorem promotedCustody_kept (c : CustodyEntry) : EntryKept c (promotedCustody c) := by
  cases hrole : c.role with
  | home => exact ⟨by simp [promotedCustody, hrole], by simp [promotedCustody, hrole], fun h => by
      simpa [custodyFits, promotedCustody, hrole] using h⟩
  | standby => exact ⟨by simp [promotedCustody, hrole], by simp [promotedCustody, hrole], fun h => by
      simp [custodyFits, promotedCustody, hrole] at h ⊢
      tauto⟩

/-- A demoted point leaves the publish list with its record reset, which keeps the law of the list, whoever owns the point. -/
theorem unpublish_publishLaw (h : PublishLaw s) : PublishLaw (unpublish p s) := by
  obtain ⟨hnodup, hlist, hrec⟩ := h
  refine ⟨hnodup.filter _, fun q hq => hlist q (List.mem_of_mem_filter hq), fun q hq => ?_⟩
  by_cases hqp : q = p
  · subst hqp
    simp [unpublish, PubRecord.resetForm] at hq
  · exact hrec q (by simpa [unpublish, hqp] using hq)

theorem unpublish_basic : Basic F B s (unpublish p s) := .publisher _ unpublish_publishLaw

theorem demote_basics (o : Station) (e : Epoch) (how : ReleaseDetail) : Basics F B s (demote p o e how s) :=
  .tail (.tail (.single (raise_basic _ s)) unpublish_basic) (mapCustody_basic fun c _ => demotedCustody_kept _ c)

/-- What every basic move, every entry replaced and every owner set keeps, every move keeps. -/
theorem Move.keeps {L : State → Prop} (basic : ∀ {s t}, Basic F B s t → L s → L t)
    (entry : ∀ {s p e}, EntryMove s p e → L s → L (s.setEntry p e))
    (own : ∀ {s p o e}, OwnMove s p o e → L s → L (setOwner p o e s)) (h : Move F B s t) (hs : L s) : L t := by
  cases h with
  | basic h => exact basic h hs
  | content p e q active move law time =>
    have hevents : L { s.setEntry p e with events := q } :=
      basic (.events (s := s.setEntry p e) q law time) (entry move hs)
    exact keeps_of_step basic (passOn_basics _ _ active) hevents
  | lose p o e how move _ _ => exact keeps_of_step basic (demote_basics o e how) (own move hs)

end Sys2Proof.Machine

end

/-! The laws of the device under the moves of a runtime: one argument for each kind of move that a law's terms speak of. -/

section

namespace Sys2Proof.Machine

open Sys2Proof.Safety Relation

variable {F : Group → Prop} {B : Prop} {s t : State} {p : Point} {g : Group} {e : MirrorEntry} {o : Station} {n : Epoch}

/-- A field of a cell just set, where the write keeps the field. -/
theorem get_set_congr {n : Nat} {α β : Type} (f : α → β) (a : Table n α) (i j : Fin n) {x : α} (h : f x = f (a.get i)) :
    f ((a.set i x).get j) = f (a.get j) := by
  by_cases hj : j = i
  · subst hj; simpa using h
  · simp [hj]

/-! ### What is read from the image alone (R177) -/

theorem State.own_congr (h : t.control = s.control) : t.own = s.own := by simp only [State.own, h]

theorem State.desc_congr (h : t.control = s.control) (q : Point) : t.desc q = s.desc q := by simp only [State.desc, h]

theorem State.groupDesc_congr (h : t.control = s.control) (k : Group) : t.groupDesc k = s.groupDesc k := by
  simp only [State.groupDesc, h]

@[simp] theorem State.setEntry_desc (p : Point) (e : MirrorEntry) (s : State) : (s.setEntry p e).desc = s.desc := rfl

@[simp] theorem setOwner_control (p : Point) (o : Station) (n : Epoch) (s : State) :
    (setOwner p o n s).control = s.control := rfl

@[simp] theorem setOwner_own (p : Point) (o : Station) (n : Epoch) (s : State) : (setOwner p o n s).own = s.own := rfl

@[simp] theorem setOwner_desc (p : Point) (o : Station) (n : Epoch) (s : State) : (setOwner p o n s).desc = s.desc := rfl

/-- Setting the owner of a point writes two fields of its entry and the role of its context. -/
@[simp] theorem setOwner_mirror (p : Point) (o : Station) (n : Epoch) (s : State) :
    (setOwner p o n s).mirror = s.mirror.set p { s.mirror.get p with owner := some o, epoch := n } := rfl

theorem setOwner_context (p : Point) (o : Station) (n : Epoch) (s : State) (i : Input) :
    (setOwner p o n s).contexts.get i =
      if (s.contexts.get i).point = some p then
        { s.contexts.get i with role := if o = s.own then .acting else .shadow }
      else s.contexts.get i := Table.get_map _ _ _

theorem setOwner_point (p : Point) (o : Station) (n : Epoch) (s : State) (i : Input) :
    ((setOwner p o n s).contexts.get i).point = (s.contexts.get i).point := by
  rw [setOwner_context]; split <;> rfl

/-! ### The control block, the local time and the queue of commands -/

/-- `t` has the control block, the local time and the waiting commands of `s`. -/
structure Stays (s t : State) : Prop where
  control : t.control = s.control
  time : t.events.time = s.events.time
  pending : t.pending = s.pending

theorem Stays.refl (s : State) : Stays s s := ⟨rfl, rfl, rfl⟩

theorem Stays.trans {u : State} (h : Stays s t) (k : Stays t u) : Stays s u :=
  ⟨k.control.trans h.control, k.time.trans h.time, k.pending.trans h.pending⟩

theorem VoterStep.stays (h : VoterStep s t) : Stays s t := ⟨h.control, h.time, h.pending⟩

theorem TakeStep.stays (h : TakeStep s t) : Stays s t := ⟨h.control, h.time, h.pending⟩

theorem Basic.stays (h : Basic F B s t) : Stays s t := by
  cases h with
  | events q law time => exact ⟨rfl, time, rfl⟩
  | group moves used standing => exact moves.voterStep.stays
  | evaluate moves used state => exact (moves.voterStep.trans (evaluate_voterStep _ _)).stays
  | _ => exact ⟨rfl, rfl, rfl⟩

theorem Move.stays (h : Move F B s t) : Stays s t := by
  cases h with
  | basic h => exact h.stays
  | content p e q active move law time =>
    have hevents : Stays s { s.setEntry p e with events := q } := ⟨rfl, time, rfl⟩
    exact hevents.trans (passOn_writeStep p _ _ _).takeStep.stays
  | lose p o e how move own other => exact ((setOwner_takeStep p o e s).trans (demote_takeStep p o e how _)).stays

theorem Moves.stays (h : Moves F B s t) : Stays s t := by
  induction h with
  | refl => exact .refl s
  | tail _ hm ih => exact ih.trans hm.stays

theorem Stays.active (h : Stays s t) (ha : s.active = true) : t.active = true := by
  simpa [State.active, h.control] using ha

/-! ### Moves of a group: the urgent queue, the event queue and the trip lines -/

/-- A voter step changes the voter, the urgent queue and the events. -/
theorem VoterStep.eq (h : VoterStep s t) :
    t = { s with voter := t.voter, link := { s.link with urgent := t.link.urgent }, events := t.events } := by
  obtain ⟨hcontrol, hsample, hcontexts, hmirror, hcustody, hpublisher, hroster, hlink, -, hport, hpending⟩ := h
  cases t
  subst hcontrol hsample hcontexts hmirror hcustody hpublisher hroster hport hpending
  congr

theorem GroupMove.urgentLaw (h : GroupMove F g s t) (hs : UrgentLaw s) : UrgentLaw t := by
  cases h with
  | raise e => simpa [UrgentLaw] using hs
  | enqueue taken => exact offerTo_law taken hs.1 hs.2
  | owe b tripped => exact hs
  | place r counts fits latched => exact hs

theorem GroupMove.eventLaw (h : GroupMove F g s t) (hs : EventLaw s) : EventLaw t := by
  cases h with
  | raise e =>
    rw [raise_eq]
    split
    · exact record_eventLaw e hs
    · exact hs
  | enqueue taken => exact hs
  | owe b tripped => exact hs
  | place r counts fits latched => exact hs

/-- The lines the groups assert depend on their states alone (R61). -/
theorem groupLines_congr (m : List Host.Cell) {a b : Table 16 GroupRecord}
    (h : ∀ g, (a.get g).state = (b.get g).state) : groupLines m a = groupLines m b := by
  have hasserting : ∀ g, asserting (groupDesc m g) (a.get g) = asserting (groupDesc m g) (b.get g) := fun g => by
    unfold asserting; rw [h g]
  simp only [groupLines, hasserting]

theorem lineLaw_of_state (hs : LineLaw s) (hc : t.control = s.control) (hl : t.voter.lines = s.voter.lines)
    (hg : ∀ g, (t.voter.groups.get g).state = (s.voter.groups.get g).state) : LineLaw t := by
  obtain ⟨hreset, hlines⟩ := hs
  refine ⟨by simpa [ResetLaw, hc] using hreset, ?_⟩
  rw [hl, hlines]
  simp [State.lineLevels, State.active, hc, groupLines_congr _ hg]

theorem setLines_lineLaw (h : ResetLaw s) : LineLaw (setLines s) := ⟨h, rfl⟩

theorem GroupMove.lineLaw (h : GroupMove F g s t) (hs : LineLaw s) : LineLaw t := by
  cases h with
  | raise e => exact lineLaw_of_state hs (by simp) (by simp) (by simp)
  | enqueue taken => exact hs
  | owe b tripped =>
    exact lineLaw_of_state hs rfl rfl (fun k => get_set_congr GroupRecord.state _ g k rfl)
  | place r counts fits latched => exact setLines_lineLaw hs.1

theorem counted_lineLaw (hs : LineLaw s) : LineLaw (counted g s) :=
  lineLaw_of_state hs rfl rfl (fun k => get_set_congr GroupRecord.state _ g k rfl)

/-- An evaluation of a used group keeps what counting and the moves of a group keep. -/
theorem evaluate_keeps {L : State → Prop} (move : ∀ {s t}, GroupMove F g s t → L s → L t)
    (count : ∀ {s}, L s → L (counted g s)) (used : (s.groupDesc g).used = true) (hs : L s) : L (evaluate g s) := by
  rw [evaluate_of_used used]
  exact keeps_of_step move (settle_groupMoves g _) (count hs)

theorem GroupMoves.groupDesc (h : GroupMoves F g s t) (k : Group) : t.groupDesc k = s.groupDesc k := by
  simp only [State.groupDesc, h.voterStep.control]

/-- A law that a move of any group and a count keep is kept by the two basic moves of the voter. -/
theorem evaluated_keeps {L : State → Prop} (move : ∀ {s t}, GroupMove F g s t → L s → L t)
    (count : ∀ {s}, L s → L (counted g s)) (h : GroupMoves F g s t) (used : (s.groupDesc g).used = true) (hs : L s) :
    L (evaluate g t) :=
  evaluate_keeps move count (by rw [h.groupDesc]; exact used) (keeps_of_step move h hs)

theorem Basic.urgentLaw (h : Basic F B s t) (hs : UrgentLaw s) : UrgentLaw t := by
  cases h with
  | urgent q law => exact law hs
  | link l urgent law frame => simpa [UrgentLaw, urgent] using hs
  | group moves used standing => exact keeps_of_step GroupMove.urgentLaw moves hs
  | evaluate moves used state => exact evaluated_keeps GroupMove.urgentLaw id moves used hs
  | _ => exact hs

theorem Basic.eventLaw (h : Basic F B s t) (hs : EventLaw s) : EventLaw t := by
  cases h with
  | events q law time => exact law hs
  | group moves used standing => exact keeps_of_step GroupMove.eventLaw moves hs
  | evaluate moves used state => exact evaluated_keeps GroupMove.eventLaw id moves used hs
  | _ => exact hs

theorem Basic.lineLaw (h : Basic F B s t) (hs : LineLaw s) : LineLaw t := by
  cases h with
  | group moves used standing => exact keeps_of_step GroupMove.lineLaw moves hs
  | evaluate moves used state => exact evaluated_keeps GroupMove.lineLaw counted_lineLaw moves used hs
  | _ => exact hs

theorem GroupMoves.groupLaw (h : GroupMoves F g s t) (hs : GroupLaw s) : GroupLaw t := fun k => by
  by_cases hk : k = g
  · subst hk; exact h.fits (hs k)
  · rw [h.others hk]; exact hs k

theorem counted_groupLaw (hs : GroupLaw s) : GroupLaw (counted g s) := fun k => by
  by_cases hk : k = g
  · subst hk; rw [counted_record]; exact hs k
  · rw [counted_others hk]; exact hs k

theorem Basic.groupLaw (h : Basic F B s t) (hs : GroupLaw s) : GroupLaw t := by
  cases h with
  | group moves used standing => exact moves.groupLaw hs
  | evaluate moves used state =>
    exact evaluated_keeps (fun hm => GroupMoves.groupLaw (.single hm)) counted_groupLaw moves used hs
  | _ => exact hs

/-! ### Laws that the voter, the urgent queue and the events do not touch -/

/-- A law that speaks neither of the voter nor of the urgent queue nor of the events. -/
def ForgetsVoter (L : State → Prop) : Prop :=
  ∀ s v q x, L s → L { s with voter := v, link := { s.link with urgent := q }, events := x }

theorem ForgetsVoter.voterStep {L : State → Prop} (hL : ForgetsVoter L) (h : VoterStep s t) (hs : L s) : L t := by
  rw [h.eq]; exact hL _ _ _ _ hs

theorem ForgetsVoter.evaluate {L : State → Prop} (hL : ForgetsVoter L) (h : GroupMoves F g s t) (hs : L s) :
    L (evaluate g t) := hL.voterStep (h.voterStep.trans (evaluate_voterStep g t)) hs

theorem Basic.noticeLaw (h : Basic F B s t) (hs : NoticeLaw s) : NoticeLaw t := by
  have hL : ForgetsVoter NoticeLaw := fun _ _ _ _ => id
  cases h with
  | notices l law => exact law hs
  | group moves used standing => exact hL.voterStep moves.voterStep hs
  | evaluate moves used state => exact hL.evaluate moves hs
  | _ => exact hs

theorem countLaw_setEntry (h : EntryMove s p e) (hs : CountLaw s) : CountLaw (s.setEntry p e) := by
  refine ⟨hs.1, hs.2.1, fun q => ?_⟩
  by_cases hq : q = p
  · subst hq; simpa using h.age.trans (hs.2.2 q)
  · simpa [hq] using hs.2.2 q

theorem countLaw_setOwner (hs : CountLaw s) : CountLaw (setOwner p o n s) := by
  refine ⟨hs.1, hs.2.1, fun q => ?_⟩
  by_cases hq : q = p
  · subst hq; simpa using hs.2.2 q
  · simpa [hq] using hs.2.2 q

theorem Basic.countLaw (h : Basic F B s t) (hs : CountLaw s) : CountLaw t := by
  have hL : ForgetsVoter CountLaw := fun _ _ _ _ => id
  cases h with
  | link l urgent law frame => exact law hs
  | group moves used standing => exact hL.voterStep moves.voterStep hs
  | evaluate moves used state => exact hL.evaluate moves hs
  | entry p e move quality hit => exact countLaw_setEntry move hs
  | own p o e move kept => exact countLaw_setOwner hs
  | _ => exact hs

theorem publishLaw_setEntry (h : EntryMove s p e) (hs : PublishLaw s) : PublishLaw (s.setEntry p e) := by
  have hacts : ∀ q, Acts s q → Acts (s.setEntry p e) q := fun q hq =>
    ⟨hq.1, (get_set_congr MirrorEntry.owner _ p q h.owner).trans hq.2⟩
  exact ⟨hs.1, fun q hq => hacts q (hs.2.1 q hq), fun q hq => hacts q (hs.2.2 q hq)⟩

theorem Basic.publishLaw (h : Basic F B s t) (hs : PublishLaw s) : PublishLaw t := by
  have hL : ForgetsVoter PublishLaw := fun _ _ _ _ => id
  cases h with
  | publisher pub law => exact law hs
  | group moves used standing => exact hL.voterStep moves.voterStep hs
  | evaluate moves used state => exact hL.evaluate moves hs
  | entry p e move quality hit => exact publishLaw_setEntry move hs
  | own p o e move kept =>
    have hacts : ∀ q, Acts s q → Acts (setOwner p o e s) q := fun q hq => by
      refine ⟨hq.1, ?_⟩
      by_cases hqp : q = p
      · subst hqp
        simpa [setOwner, State.own] using kept hq.2
      · simpa [setOwner, hqp, State.own] using hq.2
    exact ⟨hs.1, fun q hq => hacts q (hs.2.1 q hq), fun q hq => hacts q (hs.2.2 q hq)⟩
  | _ => exact hs

theorem Basic.rosterLaw (h : Basic F B s t) (hs : RosterLaw s) : RosterLaw t := by
  have hL : ForgetsVoter RosterLaw := fun _ _ _ _ => id
  cases h with
  | roster r law => exact law hs
  | group moves used standing => exact hL.voterStep moves.voterStep hs
  | evaluate moves used state => exact hL.evaluate moves hs
  | _ => exact hs

end Sys2Proof.Machine

end

section

namespace Sys2Proof.Machine

open Sys2Proof.Safety Relation

variable {F : Group → Prop} {B : Prop} {s t : State} {p : Point} {g : Group} {e : MirrorEntry} {o : Station} {n : Epoch}

/-! ### The laws of the mirror, the contexts and the custody table -/

theorem ownerLaw_setEntry (h : EntryMove s p e) (hs : OwnerLaw s) : OwnerLaw (s.setEntry p e) := by
  refine ⟨hs.1, fun hrun => ?_⟩
  have hlive := h.live hs hrun
  obtain ⟨hentry, hbound⟩ := hs.2 hrun
  refine ⟨fun q => ?_, fun i q hq => ?_⟩
  · by_cases hqp : q = p
    · subst hqp
      obtain ⟨huse, howner, -⟩ := hentry q
      simpa [h.inUse, h.owner, hlive] using ⟨huse ▸ hlive, howner hlive⟩
    · simpa [hqp] using hentry q
  · exact (get_set_congr MirrorEntry.inUse _ p q h.inUse).trans (hbound i q hq)

theorem ownerLaw_setOwner (h : OwnMove s p o n) (hs : OwnerLaw s) : OwnerLaw (setOwner p o n s) := by
  refine ⟨hs.1, fun hrun => ?_⟩
  obtain ⟨hentry, hbound⟩ := hs.2 hrun
  refine ⟨fun q => ?_, fun i q hq => ?_⟩
  · by_cases hqp : q = p
    · subst hqp
      obtain ⟨huse, -, -⟩ := hentry q
      simpa [setOwner_mirror, h.inUse] using ⟨huse ▸ h.inUse, h.serves⟩
    · simpa [setOwner_mirror, hqp] using hentry q
  · rw [setOwner_point] at hq
    have hkept : ((setOwner p o n s).mirror.get q).inUse = (s.mirror.get q).inUse := by
      by_cases hqp : q = p
      · subst hqp; simp
      · simp [hqp]
    rw [hkept]
    exact hbound i q hq

theorem Basic.ownerLaw (h : Basic F B s t) (hs : OwnerLaw s) : OwnerLaw t := by
  have hL : ForgetsVoter OwnerLaw := fun _ _ _ _ => id
  cases h with
  | group moves used standing => exact hL.voterStep moves.voterStep hs
  | evaluate moves used state => exact hL.evaluate moves hs
  | entry p e move quality hit => exact ownerLaw_setEntry move hs
  | own p o e move kept => exact ownerLaw_setOwner move hs
  | contexts x move =>
    refine ⟨hs.1, fun hrun => ⟨(hs.2 hrun).1, fun i q hq => (hs.2 hrun).2 i q ?_⟩⟩
    rw [← move.point i]; exact hq
  | _ => exact hs

/-- The role that a mirror gives a context depends on the owners alone. -/
theorem roleFor_congr (hc : t.control = s.control) (x : Option Point)
    (h : ∀ q, x = some q → (t.mirror.get q).owner = (s.mirror.get q).owner) : roleFor t x = roleFor s x := by
  cases x with
  | none => rfl
  | some q => simp only [roleFor, State.own_congr hc, h q rfl]

theorem roleLaw_setEntry (h : EntryMove s p e) (hs : RoleLaw s) : RoleLaw (s.setEntry p e) := by
  refine ⟨hs.1, fun i => ⟨fun hrun => ?_, (hs.2 i).2⟩⟩
  exact ((hs.2 i).1 hrun).trans
    (roleFor_congr (s := s) (t := s.setEntry p e) rfl _ (fun q _ => get_set_congr MirrorEntry.owner _ p q h.owner)).symm

theorem roleLaw_setOwner (hs : RoleLaw s) : RoleLaw (setOwner p o n s) := by
  refine ⟨hs.1, fun i => ?_⟩
  obtain ⟨hrole, hidle⟩ := hs.2 i
  rw [setOwner_context]
  split
  next hi =>
    refine ⟨fun _ => ?_, fun hconfig => absurd (hidle hconfig).1 (by simp [hi])⟩
    simp only [roleFor, hi, setOwner_mirror, setOwner_own, Table.get_set_self, Option.some.injEq]
  next hi =>
    refine ⟨fun hrun => (hrole hrun).trans
      (roleFor_congr (s := s) (t := setOwner p o n s) rfl _ (fun q hq => ?_)).symm, hidle⟩
    have hqp : q ≠ p := fun h => hi (h ▸ hq)
    simp [setOwner_mirror, hqp]

theorem Basic.roleLaw (h : Basic F B s t) (hs : RoleLaw s) : RoleLaw t := by
  have hL : ForgetsVoter RoleLaw := by
    refine fun s _ _ _ hs => ⟨hs.1, fun i => ⟨fun hrun => ?_, (hs.2 i).2⟩⟩
    exact ((hs.2 i).1 hrun).trans (roleFor_congr rfl _ fun _ _ => rfl).symm
  have hsame : t.control = s.control → t.mirror = s.mirror → t.contexts = s.contexts → RoleLaw t := by
    intro hc hm hx
    refine ⟨by simpa [ResetLaw, hc] using hs.1, fun i => ?_⟩
    rw [hx, hc, roleFor_congr hc _ (fun _ _ => by rw [hm])]
    exact hs.2 i
  cases h with
  | group moves used standing => exact hL.voterStep moves.voterStep hs
  | evaluate moves used state => exact hL.evaluate moves hs
  | entry p e move quality hit => exact roleLaw_setEntry move hs
  | own p o e move kept => exact roleLaw_setOwner hs
  | contexts x move =>
    refine ⟨hs.1, fun i => ?_⟩
    obtain ⟨hrole, hidle⟩ := hs.2 i
    refine ⟨fun hrun => ?_, fun hconfig => ⟨(move.point i).trans (hidle hconfig).1, (move.role i).trans (hidle hconfig).2⟩⟩
    show (x.get i).role = roleFor _ (x.get i).point
    rw [move.point, move.role, hrole hrun]
    exact (roleFor_congr rfl _ (fun _ _ => rfl)).symm
  | _ => exact hsame rfl rfl rfl

theorem Basic.custodyLaw (h : Basic F B s t) (hs : CustodyLaw s) : CustodyLaw t := by
  have hL : ForgetsVoter CustodyLaw := fun _ _ _ _ => id
  have hpoints : ∀ {x : Table 8 Context}, (∀ i, (x.get i).point = (s.contexts.get i).point) →
      CustodyLaw { s with contexts := x } := by
    intro x hx
    refine ⟨hs.1, fun i => ?_⟩
    show (_ → _ = (x.get i).point) ∧ (_ → _ ∧ (x.get i).point = none) ∧ _
    rw [hx i]
    exact hs.2 i
  cases h with
  | group moves used standing => exact hL.voterStep moves.voterStep hs
  | evaluate moves used state => exact hL.evaluate moves hs
  | own p o e move kept => exact hpoints (setOwner_point p o e s)
  | contexts x move => exact hpoints move.point
  | table t move =>
    refine ⟨hs.1, fun i => ?_⟩
    obtain ⟨hpoint, hnone, hfits⟩ := hs.2 i
    have hmove := move i
    show (_ → (t.get i).map _ = _) ∧ (_ → t.get i = none ∧ _) ∧ ∀ c, t.get i = some c → _
    generalize s.custody.table.get i = a at hpoint hnone hfits hmove
    generalize t.get i = b at hmove
    cases hmove with
    | none => exact ⟨hpoint, hnone, by simp⟩
    | @some c c' hc =>
      refine ⟨fun hrun => (by simpa [hc.point] using hpoint hrun), fun h => by simpa using (hnone h).1, fun x hx => ?_⟩
      obtain rfl := Option.some.inj hx
      obtain ⟨hfit, hrole⟩ := hfits c rfl
      refine ⟨hc.fits hfit, ?_⟩
      rw [hc.role, hc.point]
      exact hrole
  | _ => exact hs

theorem contextLaw_setOwner (hs : ContextLaw s) : ContextLaw (setOwner p o n s) := by
  refine ⟨hs.1, fun hrun i q hq => ?_⟩
  rw [setOwner_point] at hq
  rw [setOwner_context]
  split
  · exact hs.2 hrun i q hq
  · exact hs.2 hrun i q hq

theorem contextLaw_contexts {x : Table 8 Context} (move : ContextsMove s x) (hs : ContextLaw s) :
    ContextLaw { s with contexts := x } := by
  refine ⟨hs.1, fun hrun i q hq => ?_⟩
  obtain ⟨hused, hdebounce, hsample⟩ := hs.2 hrun i q (by rw [← move.point i]; exact hq)
  exact ⟨hused, move.fits (hs.1.2 hrun) i q hq hused hdebounce hsample⟩

theorem Basic.contextLaw (h : Basic F B s t) (hs : ContextLaw s) : ContextLaw t := by
  have hL : ForgetsVoter ContextLaw := fun _ _ _ _ => id
  cases h with
  | group moves used standing => exact hL.voterStep moves.voterStep hs
  | evaluate moves used state => exact hL.evaluate moves hs
  | own p o e move kept => exact contextLaw_setOwner hs
  | contexts x move => exact contextLaw_contexts move hs
  | _ => exact hs

theorem contentLaw_setEntry (h : EntryMove s p e) (hs : ContentLaw s) : ContentLaw (s.setEntry p e) := by
  refine ⟨hs.1, fun hrun q hq => ?_⟩
  by_cases hqp : q = p
  · subst hqp
    simpa using h.fits hs hrun (by simpa [h.inUse] using hq)
  · simpa [hqp] using hs.2 hrun q (by simpa [hqp] using hq)

theorem contentFits_congr (m : PublishMode) {e e' : MirrorEntry} (hq : e'.quality = e.quality) (hh : e'.hit = e.hit)
    (hv : e'.value = e.value) : contentFits m e' = contentFits m e := by
  simp only [contentFits, hq, hh, hv]

theorem contentLaw_setOwner (hs : ContentLaw s) : ContentLaw (setOwner p o n s) := by
  refine ⟨contextLaw_setOwner hs.1, fun hrun q hq => ?_⟩
  by_cases hqp : q = p
  · subst hqp
    have hfits := hs.2 hrun q (by simpa using hq)
    simpa [contentFits] using hfits
  · simpa [hqp] using hs.2 hrun q (by simpa [hqp] using hq)

theorem Basic.contentLaw (h : Basic F B s t) (hs : ContentLaw s) : ContentLaw t := by
  have hL : ForgetsVoter ContentLaw := fun _ _ _ _ => id
  cases h with
  | group moves used standing => exact hL.voterStep moves.voterStep hs
  | evaluate moves used state => exact hL.evaluate moves hs
  | entry p e move quality hit => exact contentLaw_setEntry move hs
  | own p o e move kept => exact contentLaw_setOwner hs
  | contexts x move => exact ⟨contextLaw_contexts move hs.1, hs.2⟩
  | _ => exact hs

end Sys2Proof.Machine

end

section

namespace Sys2Proof.Machine

open Sys2Proof.Safety Relation

variable {F : Group → Prop} {B : Prop} {s t : State} {p : Point} {g : Group} {e : MirrorEntry} {o : Station} {n : Epoch}

/-! ### The counts of the groups and the mirror (R49, R105) -/

/-- The counts of a group describe the mirror, and a group not used holds its CONFIG form: the law of one group. -/
def CountedAt (s : State) (g : Group) : Prop :=
  ((s.groupDesc g).used = true →
    (s.voter.groups.get g).hitVotes = (votes (s.groupDesc g) s.mirror).count .hit ∧
    (s.voter.groups.get g).clearVotes = (votes (s.groupDesc g) s.mirror).count .clear ∧
    (s.voter.groups.get g).excluded = (votes (s.groupDesc g) s.mirror).count .excluded) ∧
  ((s.groupDesc g).used = false → s.voter.groups.get g = GroupRecord.configForm)

theorem voteLaw_iff_countedAt (s : State) :
    VoteLaw s ↔ ResetLaw s ∧ (s.control.state.runtime = true → ∀ g, CountedAt s g) := Iff.rfl

/-- The votes of a group depend on the quality and the hit of its members alone (R49). -/
theorem votes_congr {d : GroupDesc} {a b : Table 64 MirrorEntry}
    (h : ∀ q ∈ d.members, (a.get q).quality = (b.get q).quality ∧ (a.get q).hit = (b.get q).hit) :
    votes d a = votes d b := by
  unfold votes
  exact List.map_congr_left fun q hq => by rw [(h q hq).1, (h q hq).2]

theorem CountedAt.congr (hs : CountedAt s g) (hc : t.control = s.control)
    (hg : t.voter.groups.get g = s.voter.groups.get g)
    (hm : ∀ q ∈ (s.groupDesc g).members,
      (t.mirror.get q).quality = (s.mirror.get q).quality ∧ (t.mirror.get q).hit = (s.mirror.get q).hit) :
    CountedAt t g := by
  unfold CountedAt
  rw [State.groupDesc_congr hc, hg, votes_congr hm]
  exact hs

theorem CountedAt.groupMoves {k : Group} (hs : CountedAt s k) (h : GroupMoves F g s t)
    (used : (s.groupDesc g).used = true ∨ s.voter.groups.get g ≠ GroupRecord.configForm) : CountedAt t k := by
  by_cases hk : k = g
  · subst hk
    unfold CountedAt
    rw [State.groupDesc_congr h.voterStep.control, h.voterStep.mirror]
    obtain ⟨hhit, hclear, hexcluded⟩ := h.counts
    rw [hhit, hclear, hexcluded]
    refine ⟨hs.1, fun hunused => absurd (hs.2 hunused) (used.resolve_left (by simp [hunused]))⟩
  · exact hs.congr h.voterStep.control (h.others hk) (by simp [h.voterStep.mirror])

/-- An evaluation counts its group from the mirror as it stands. -/
theorem evaluate_countedAt_self (used : (s.groupDesc g).used = true) : CountedAt (evaluate g s) g := by
  have hstep := evaluate_voterStep g s
  unfold CountedAt
  rw [State.groupDesc_congr hstep.control, hstep.mirror, evaluate_of_used used]
  obtain ⟨hhit, hclear, hexcluded⟩ := (settle_groupMoves (F := fun _ => True) g (counted g s)).counts
  rw [hhit, hclear, hexcluded, counted_record]
  exact ⟨fun _ => ⟨rfl, rfl, rfl⟩, fun hunused => by simp [used] at hunused⟩

theorem evaluate_others {k : Group} (hk : k ≠ g) (s : State) :
    (evaluate g s).voter.groups.get k = s.voter.groups.get k := by
  cases used : (s.groupDesc g).used with
  | false => rw [evaluate_of_unused used]
  | true =>
    rw [evaluate_of_used used, (settle_groupMoves (F := fun _ => True) g (counted g s)).others hk, counted_others hk]

theorem CountedAt.evaluate {k : Group} (hs : CountedAt s k) (used : (s.groupDesc g).used = true) :
    CountedAt (evaluate g s) k := by
  by_cases hk : k = g
  · subst hk
    exact evaluate_countedAt_self used
  · have hstep := evaluate_voterStep g s
    exact hs.congr hstep.control (evaluate_others hk s) (by simp [hstep.mirror])

/-- Evaluations of used groups leave every group counted that was counted or is one of them. -/
theorem foldl_evaluate_countedAt : ∀ (l : List Group) {s : State}, (∀ k ∈ l, (s.groupDesc k).used = true) →
    (∀ k, k ∈ l ∨ CountedAt s k) → ∀ k, CountedAt (l.foldl (fun t k => Machine.evaluate k t) s) k
  | [], _, _, hs => fun k => (hs k).resolve_left (by simp)
  | a :: l, s, hused, hs => by
    have ha : (s.groupDesc a).used = true := hused a (by simp)
    refine foldl_evaluate_countedAt l (fun k hk => ?_) (fun k => ?_)
    · rw [evaluate_groupDesc]; exact hused k (by simp [hk])
    · by_cases hka : k = a
      · subst hka
        exact .inr (evaluate_countedAt_self ha)
      · rcases hs k with hk | hk
        · exact .inl ((List.mem_cons.mp hk).resolve_left hka)
        · exact .inr (hk.evaluate ha)

/-- A point passed to the voter leaves every group counted, when those without the point as a member were (R51). -/
theorem passToVoter_countedAt
    (hs : ∀ k, ¬ ((s.groupDesc k).used = true ∧ p ∈ (s.groupDesc k).members) → CountedAt s k) (k : Group) :
    CountedAt (passToVoter p s) k := by
  rw [passToVoter_eq_foldl_evaluate]
  refine foldl_evaluate_countedAt _ (fun k hk => ?_) (fun k => ?_) k
  · simp only [List.mem_filter, Bool.and_eq_true] at hk
    exact hk.2.1
  · by_cases hk : (s.groupDesc k).used = true ∧ p ∈ (s.groupDesc k).members
    · exact .inl (by simp [hk])
    · exact .inr (hs k hk)

theorem setEntry_entry_ne {q : Point} (h : q ≠ p) : (s.setEntry p e).mirror.get q = s.mirror.get q := by simp [h]

/-- A content write, or an entry that becomes STALE, leaves every group counted (R22). -/
theorem passOn_countedAt (q : EventQueue) (hs : ∀ k, CountedAt s k) (k : Group) :
    CountedAt (passOn p (s.mirror.get p).quality (s.mirror.get p).hit { s.setEntry p e with events := q }) k := by
  set u : State := { s.setEntry p e with events := q } with hu
  have hwithout : ∀ k, p ∉ (s.groupDesc k).members → CountedAt u k := fun k hk =>
    (hs k).congr rfl rfl fun x hx => by
      have hxp : x ≠ p := fun h => hk (h ▸ hx)
      simp [hu, hxp]
  unfold passOn
  extract_lets x s1
  have h1 : CountedAt s1 k := by
    by_cases hsame : x.quality = (s.mirror.get p).quality ∧ x.hit = (s.mirror.get p).hit
    · have hs1 : s1 = u := if_pos hsame
      rw [hs1]
      refine (hs k).congr rfl rfl fun y _ => ?_
      by_cases hy : y = p
      · subst hy; exact hsame
      · simp [hu, hy]
    · have hs1 : s1 = passToVoter p u := if_neg hsame
      rw [hs1]
      refine passToVoter_countedAt (fun k hk => ?_) k
      by_cases hmem : p ∈ (s.groupDesc k).members
      · have hunused : (s.groupDesc k).used = false := by
          have : ¬ (s.groupDesc k).used = true := fun hused => hk ⟨hused, hmem⟩
          simpa using this
        exact ⟨fun hused => absurd hused (by simp [State.groupDesc_congr (show u.control = s.control from rfl), hunused]),
          fun _ => (hs k).2 hunused⟩
      · exact hwithout k hmem
  split
  · obtain ⟨pub, hpub⟩ := passToPublisher_publisherStep p (s.mirror.get p).quality (s.mirror.get p).hit s1
    rw [hpub]
    exact h1
  · exact h1

theorem setOwner_votes_same (q : Point) :
    ((setOwner p o n s).mirror.get q).quality = (s.mirror.get q).quality ∧
      ((setOwner p o n s).mirror.get q).hit = (s.mirror.get q).hit := by
  by_cases hq : q = p
  · subst hq; simp
  · simp [hq]

theorem Basic.countedAt {k : Group} (h : Basic F B s t) (hs : CountedAt s k) : CountedAt t k := by
  cases h with
  | group moves used standing => exact hs.groupMoves moves used
  | @evaluate g t moves used state =>
    exact (hs.groupMoves moves (.inl used)).evaluate (by rw [moves.groupDesc]; exact used)
  | entry p e move quality hit =>
    refine hs.congr rfl rfl fun q _ => ?_
    exact ⟨get_set_congr MirrorEntry.quality _ p q quality, get_set_congr MirrorEntry.hit _ p q hit⟩
  | own p o e move kept => exact hs.congr rfl rfl fun q _ => setOwner_votes_same q
  | _ => exact hs

theorem Move.countedAt (h : Move F B s t) (hs : ∀ k, CountedAt s k) (k : Group) : CountedAt t k := by
  cases h with
  | basic h => exact h.countedAt (hs k)
  | content p e q active move law time => exact passOn_countedAt q hs k
  | lose p o e how move own other =>
    have hown : CountedAt (setOwner p o e s) k := (hs k).congr rfl rfl fun q _ => setOwner_votes_same q
    exact keeps_of_step (L := fun u => CountedAt u k) Basic.countedAt (demote_basics (F := F) (B := B) o e how) hown

/-! ### The states of the groups and their counts (R52 to R57) -/

/-- A used group stands as its counts have it: the law of one group. -/
def StandsAt (s : State) (g : Group) : Prop :=
  (s.groupDesc g).used = true → standingFits (s.groupDesc g) (s.voter.groups.get g) = true

theorem GroupRecord.SameCounts.satisfied {r r' : GroupRecord} (h : r.SameCounts r') (d : GroupDesc) :
    satisfied d r' = satisfied d r := by
  unfold Machine.satisfied required countedSize
  rw [h.1, h.2.2]

theorem GroupRecord.SameCounts.noBasis {r r' : GroupRecord} (h : r.SameCounts r') (d : GroupDesc) :
    noBasis d r' = noBasis d r := by
  unfold Machine.noBasis countedSize
  rw [h.2.2]

theorem announce_state (g : Group) (s : State) :
    ((announce g s).voter.groups.get g).state = (s.voter.groups.get g).state := by
  unfold announce; split <;> simp

theorem enterTripped_state (g : Group) (c : Cause) (s : State) :
    ((enterTripped g c s).voter.groups.get g).state = .tripped := by
  unfold enterTripped
  extract_lets r s1 s2 s3
  have h3 : (s3.voter.groups.get g).state = .tripped := by
    simp only [s3, s2]
    split <;> simp [s1]
  split
  · rw [announce_state]; exact h3
  · exact h3

theorem evaluateClear_standing (hs : (s.voter.groups.get g).state = .clear) :
    standingFits (s.groupDesc g) ((evaluateClear g s).voter.groups.get g) = true := by
  have hcounts := (evaluateClear_groupMoves (F := fun _ => True) hs).counts
  have hsat := hcounts.satisfied (s.groupDesc g)
  have hbasis := hcounts.noBasis (s.groupDesc g)
  unfold standingFits
  rw [hsat, hbasis]
  unfold evaluateClear
  extract_lets d r
  cases hsat' : satisfied d r with
  | true =>
    by_cases hconfirm : d.confirm = 0
    · simp [hconfirm, enterTripped_state]
    · rw [if_pos rfl, if_neg hconfirm]
      simpa [enterArming] using hconfirm
  | false =>
    cases hbasis' : noBasis d r with
    | true => simp [enterFault]
    | false => simp [hs]

/-- The rule of a group's state leaves it standing as its counts have it, where ARMING has a confirm time above 0. -/
theorem settle_standing (hs : (s.voter.groups.get g).state = .arming → (s.groupDesc g).confirm ≠ 0) :
    standingFits (s.groupDesc g) ((settle g s).voter.groups.get g) = true := by
  unfold settle
  split
  next hclear => exact evaluateClear_standing hclear
  next harming =>
    have hcounts := (evaluateArming_groupMoves (F := fun _ => True) harming).counts
    unfold standingFits
    rw [hcounts.satisfied, hcounts.noBasis]
    unfold evaluateArming
    extract_lets d r
    cases hsat' : satisfied d r with
    | true => simpa [harming, d, r, hsat'] using hs harming
    | false =>
      cases hbasis' : noBasis d r with
      | true => simp [enterFault]
      | false => simp
  next hfault =>
    unfold evaluateFault
    split
    next hbasis => simp [standingFits, hfault, hbasis]
    next =>
      have hc : (Machine.raise (.groupFaultEnded g) (enterState g .clear s)).control = s.control := by
        rw [raise_control, (enterState_voterStep g .clear s).control]
      rw [← State.groupDesc_congr hc]
      exact evaluateClear_standing (by simp)
  next htripped => simp [standingFits, htripped]

theorem evaluate_standsAt_self (hs : (s.voter.groups.get g).state = .arming → (s.groupDesc g).confirm ≠ 0) :
    StandsAt (evaluate g s) g := by
  intro hused
  rw [evaluate_groupDesc] at hused
  rw [evaluate_groupDesc, evaluate_of_used hused, ← State.groupDesc_congr (counted_voterStep g s).control]
  refine settle_standing fun h => ?_
  rw [State.groupDesc_congr (counted_voterStep g s).control]
  exact hs (by simpa [GroupRecord.count] using h)

theorem StandsAt.congr (hs : StandsAt s g) (hc : t.control = s.control)
    (hg : t.voter.groups.get g = s.voter.groups.get g) : StandsAt t g := by
  unfold StandsAt
  rw [State.groupDesc_congr hc, hg]
  exact hs

theorem Basic.standsAt {k : Group} (h : Basic F B s t) (hs : StandsAt s k) : StandsAt t k := by
  cases h with
  | @group g t moves used standing =>
    by_cases hk : k = g
    · subst hk
      intro hused
      rw [moves.groupDesc] at hused ⊢
      exact standing (hs hused)
    · exact hs.congr moves.voterStep.control (moves.others hk)
  | @evaluate g t moves used state =>
    by_cases hk : k = g
    · subst hk
      refine evaluate_standsAt_self fun harming => ?_
      rw [moves.groupDesc]
      rcases state with hstate | hstate
      · have hfits := hs used
        simp only [standingFits, ← hstate, harming, Bool.and_eq_true, bne_iff_ne] at hfits
        exact hfits.2
      · simp [harming] at hstate
    · exact hs.congr ((moves.voterStep.trans (evaluate_voterStep g t)).control)
        ((evaluate_others hk t).trans (moves.others hk))
  | _ => exact hs

/-! ### Every law under every move -/

theorem Move.standsAt {k : Group} (h : Move F B s t) (hs : StandsAt s k) : StandsAt t k :=
  h.keeps (L := fun u => StandsAt u k) Basic.standsAt (fun _ => id) (fun _ => id) hs

theorem Move.urgentLaw (h : Move F B s t) (hs : UrgentLaw s) : UrgentLaw t :=
  h.keeps Basic.urgentLaw (fun _ => id) (fun _ => id) hs

theorem Move.eventLaw (h : Move F B s t) (hs : EventLaw s) : EventLaw t :=
  h.keeps Basic.eventLaw (fun _ => id) (fun _ => id) hs

theorem Move.noticeLaw (h : Move F B s t) (hs : NoticeLaw s) : NoticeLaw t :=
  h.keeps Basic.noticeLaw (fun _ => id) (fun _ => id) hs

theorem Move.countLaw (h : Move F B s t) (hs : CountLaw s) : CountLaw t :=
  h.keeps Basic.countLaw countLaw_setEntry (fun _ => countLaw_setOwner) hs

theorem Move.lineLaw (h : Move F B s t) (hs : LineLaw s) : LineLaw t :=
  h.keeps Basic.lineLaw (fun _ => id) (fun _ => id) hs

theorem Move.groupLaw (h : Move F B s t) (hs : GroupLaw s) : GroupLaw t :=
  h.keeps Basic.groupLaw (fun _ => id) (fun _ => id) hs

theorem Move.rosterLaw (h : Move F B s t) (hs : RosterLaw s) : RosterLaw t :=
  h.keeps Basic.rosterLaw (fun _ => id) (fun _ => id) hs

theorem Move.ownerLaw (h : Move F B s t) (hs : OwnerLaw s) : OwnerLaw t :=
  h.keeps Basic.ownerLaw ownerLaw_setEntry ownerLaw_setOwner hs

theorem Move.roleLaw (h : Move F B s t) (hs : RoleLaw s) : RoleLaw t :=
  h.keeps Basic.roleLaw roleLaw_setEntry (fun _ => roleLaw_setOwner) hs

theorem custodyLaw_setOwner (hs : CustodyLaw s) : CustodyLaw (setOwner p o n s) := by
  refine ⟨hs.1, fun i => ?_⟩
  rw [setOwner_point]
  exact hs.2 i

theorem Move.custodyLaw (h : Move F B s t) (hs : CustodyLaw s) : CustodyLaw t :=
  h.keeps Basic.custodyLaw (fun _ => id) (fun _ => custodyLaw_setOwner) hs

theorem Move.contextLaw (h : Move F B s t) (hs : ContextLaw s) : ContextLaw t :=
  h.keeps Basic.contextLaw (fun _ => id) (fun _ => contextLaw_setOwner) hs

theorem Move.contentLaw (h : Move F B s t) (hs : ContentLaw s) : ContentLaw t :=
  h.keeps Basic.contentLaw contentLaw_setEntry (fun _ => contentLaw_setOwner) hs

/-- A point that this station loses leaves the publish list with its record reset, so that no other point is touched (R99). -/
theorem lose_publishLaw {how : ReleaseDetail} (hs : PublishLaw s) : PublishLaw (demote p o n how (setOwner p o n s)) := by
  obtain ⟨hnodup, hlist, hrec⟩ := hs
  have hstays := (setOwner_takeStep p o n s).trans (demote_takeStep p o n how (setOwner p o n s))
  have hmirror : (demote p o n how (setOwner p o n s)).mirror = (setOwner p o n s).mirror := by
    simp [demote, unpublish]
  have hpub : (demote p o n how (setOwner p o n s)).publisher =
      { s.publisher with list := s.publisher.list.filter (· != p), records := s.publisher.records.set p .resetForm } := by
    simp [demote, unpublish, setOwner]
  have hacts : ∀ q, q ≠ p → Acts s q → Acts (demote p o n how (setOwner p o n s)) q := fun q hq ⟨hactive, howner⟩ => by
    refine ⟨hstays.stays.active hactive, ?_⟩
    rw [hmirror, State.own_congr hstays.control]
    simpa [hq] using howner
  refine ⟨by rw [hpub]; exact hnodup.filter _, fun q hq => ?_, fun q hq => ?_⟩
  · rw [hpub] at hq
    obtain ⟨hmem, hne⟩ := List.mem_filter.mp hq
    exact hacts q (by simpa using hne) (hlist q hmem)
  · rw [hpub] at hq
    by_cases hqp : q = p
    · subst hqp; simp [PubRecord.resetForm] at hq
    · exact hacts q hqp (hrec q (by simpa [hqp] using hq))

theorem Move.publishLaw (h : Move F B s t) (hs : PublishLaw s) : PublishLaw t := by
  cases h with
  | basic h => exact h.publishLaw hs
  | content p e q active move law time =>
    have hevents : PublishLaw { s.setEntry p e with events := q } := publishLaw_setEntry move hs
    exact keeps_of_step (Basic.publishLaw (F := F) (B := B)) (passOn_basics _ _ active) hevents
  | lose p o e how move own other => exact lose_publishLaw hs

theorem Move.voteLaw (h : Move F B s t) (hs : VoteLaw s) : VoteLaw t := by
  refine ⟨by simpa [ResetLaw, h.stays.control] using hs.1, fun hrun => ?_⟩
  exact h.countedAt (hs.2 (by rw [← h.stays.control]; exact hrun))

theorem Move.standingLaw (h : Move F B s t) (hs : StandingLaw s) : StandingLaw t := by
  refine ⟨by simpa [ResetLaw, h.stays.control] using hs.1, fun hrun g => ?_⟩
  exact h.standsAt (hs.2 (by rw [← h.stays.control]; exact hrun) g)

end Sys2Proof.Machine

end

/-! The operations of the device as chains of moves, each said once: the Publisher's, the voter's, the mirror's and the Custody
Controller's. -/

section

namespace Sys2Proof.Machine

open Sys2Proof.Safety Relation

variable {F : Group → Prop} {B : Prop} {s t : State} {p : Point} {g : Group} {i : Input} {c : CustodyEntry}

theorem Moves.active (h : Moves F B s t) (ha : s.active = true) : t.active = true := h.stays.active ha

theorem raise_moves (e : Event) (s : State) : Moves F B s (raise e s) := (raise_basic e s).moves

/-- A fold of operations that are chains of moves at an active station. -/
theorem foldl_moves {α : Type} {f : State → α → State} (h : ∀ s a, s.active = true → Moves F B s (f s a)) :
    ∀ (l : List α) {s : State}, s.active = true → Moves F B s (l.foldl f s)
  | [], _, _ => .refl
  | a :: l, s, ha => (h s a ha).trans (foldl_moves h l ((h s a ha).active ha))

/-! ### The urgent queue (R133) -/

theorem offerTo_basic {r : Request} {q : List Request} (h : offerTo s.link.urgent r = some q) :
    Basic F B s (s.withUrgent q) := .urgent q fun hs => offerTo_law h hs.1 hs.2

theorem offer_moves (r : Request) (s : State) : Moves F B s (offer r s) := by
  unfold offer
  split
  next h => exact (offerTo_basic h).moves
  next => exact .refl

theorem dequeue_basic (r : Request) (s : State) : Basic F B s (dequeue r s) :=
  .urgent _ fun hs => ⟨hs.1.erase r, (List.length_erase_le).trans hs.2⟩

/-! ### The Group Voter (chapter 3, chapter 6) -/

theorem passToVoter_moves (p : Point) (s : State) : Moves F B s (passToVoter p s) := (passToVoter_basics p s).moves

theorem enterTripped_basic {cause : Cause} (hs : (s.voter.groups.get g).state ≠ .tripped)
    (used : (s.groupDesc g).used = true ∨ s.voter.groups.get g ≠ GroupRecord.configForm) :
    Basic F B s (enterTripped g cause s) :=
  .group (enterTripped_groupMoves hs) used fun _ => by simp [standingFits, enterTripped_state]

theorem confirmExpiry_moves (g : Group) (s : State) : Moves F B s (confirmExpiry g s) := by
  unfold confirmExpiry
  extract_lets r
  split
  next h =>
    have harming : (s.voter.groups.get g).state = .arming := by
      simp only [Bool.and_eq_true, beq_iff_eq] at h
      exact h.2
    refine (enterTripped_basic (by simp [harming]) (.inr fun hconfig => ?_)).moves
    simp [hconfig, GroupRecord.configForm] at harming
  next => exact .refl

theorem takeTripped_moves (a : Station) (own : Bool) (used : (s.groupDesc g).used = true) :
    Moves F B s (takeTripped a own g s) := by
  unfold takeTripped
  split
  · exact .refl
  · split
    next h =>
      simp only [Bool.and_eq_true, bne_iff_ne] at h
      exact (enterTripped_basic h.2 (.inl used)).moves
    next => exact .refl

theorem acceptRelease_moves (a : Station) (used : (s.groupDesc g).used = true) (hF : F g) :
    Moves F B s (acceptRelease a g s) := by
  have hclear : GroupMoves F g s (Machine.raise (.groupReleased g a) (enterState g .clear s)) :=
    .tail (.single (enterState_groupMove (.inl rfl) (fun _ => hF))) (.raise _)
  exact (Basic.evaluate hclear used (.inr (by simp))).moves

theorem refuseRelease_moves (a : Station) (why : RefusedReason) (used : (s.groupDesc g).used = true)
    (hs : (s.voter.groups.get g).state = .tripped) : Moves F B s (refuseRelease a g why s) := by
  unfold refuseRelease
  extract_lets s1
  have h1 : GroupMoves F g s s1 := .single (.raise _)
  have htripped : (s1.voter.groups.get g).state = .tripped := by simpa [s1] using hs
  split
  · refine (Basic.group (h1.tail (announce_groupMove htripped)) (.inl used) fun _ => ?_).moves
    simp [standingFits, announce_state, htripped]
  · exact (raise_basic _ s).moves

theorem takeRelease_moves (a : Station) (used : (s.groupDesc g).used = true) (hF : F g) :
    Moves F B s (takeRelease a g s) := by
  unfold takeRelease
  extract_lets d r
  split
  next hs =>
    split
    · exact refuseRelease_moves a _ used hs
    · split
      · exact refuseRelease_moves a _ used hs
      · exact acceptRelease_moves a used hF
  next => exact .refl

/-- A TRIP frame moves a group out of TRIPPED with subkind RELEASE alone (R102). -/
theorem takeTrip_moves (a : Station) (own : Bool) {b k : Byte} (hF : k = 2 → ∀ g, groupOfByte b = some g → F g) :
    Moves F B s (takeTrip a own b k s) := by
  unfold takeTrip
  split
  · exact .refl
  next g hg =>
    split
    next used =>
      split
      · exact takeTripped_moves a own used
      · split
        next hk => exact takeRelease_moves a used (hF hk g hg)
        next => exact .refl
    next => exact .refl

theorem unowe_basic (h : (s.voter.groups.get g).announceOwed = true) :
    Basic F B s (s.setGroup g { s.voter.groups.get g with announceOwed := false }) := by
  refine .group (.single (.owe false (by simp))) (.inr fun hconfig => ?_) fun hs => ?_
  · simp [hconfig, GroupRecord.configForm] at h
  · simpa [standingFits, satisfied, noBasis, required, countedSize] using hs

theorem reofferTripped_moves (s : State) : Moves F B s (reofferTripped s) := by
  unfold reofferTripped
  refine foldl_rel (R := fun (x y : State × Bool) => Moves F B x.1 y.1) (fun _ => .refl) .trans ?_ _ (s, false)
  intro x g
  dsimp only
  split
  · exact .refl
  next h =>
    have howed : (x.1.voter.groups.get g).announceOwed = true := by
      simp only [Bool.or_eq_true, Bool.not_eq_true', not_or, Bool.not_eq_false] at h
      exact h.2
    have hunowed : Moves F B x.1 (x.1.setGroup g { x.1.voter.groups.get g with announceOwed := false }) :=
      (unowe_basic howed).moves
    split
    · split
      next q hq => exact hunowed.trans (offerTo_basic (s := x.1.setGroup g _) hq).moves
      next => exact .refl
    · exact hunowed

/-! ### The Publisher (chapter 5) -/

theorem setPub_publishLaw {r : PubRecord} (h : PublishLaw s)
    (hr : PublishLaw s → r.refresh ≠ .stopped ∨ r.carried = true → Acts s p) : PublishLaw (s.setPub p r) := by
  refine ⟨h.1, h.2.1, fun q hq => ?_⟩
  by_cases hqp : q = p
  · subst hqp; exact hr h (by simpa using hq)
  · exact h.2.2 q (by simpa [hqp] using hq)

theorem refreshExpiry_moves (p : Point) (s : State) : Moves F B s (refreshExpiry p s) := by
  unfold refreshExpiry
  extract_lets r
  split
  next h =>
    simp only [Bool.and_eq_true, Timer.due_iff] at h
    have hlaw : PublishLaw s → PublishLaw (makeDue p (s.setPub p { r with refresh := .stopped })) := fun hs => by
      have hacts : Acts s p := hs.2.2 p (.inl (by simp [show (s.publisher.records.get p).refresh = _ from h.2]))
      exact makeDue_publishLaw hacts (setPub_publishLaw hs fun _ _ => hacts)
    obtain ⟨pub, hpub⟩ := makeDue_publisherStep p (s.setPub p { r with refresh := .stopped })
    rw [hpub] at hlaw ⊢
    exact (Basic.publisher (s := s) pub hlaw).moves
  next => exact .refl

theorem foldl_setPub_moves {f : State → Point → State} {P : State → Point → Prop}
    (h : ∀ s p, P s p → Moves F B s (f s p)) (kept : ∀ s p q, P s q → P (f s p) q) :
    ∀ {l : List Point} {s : State}, (∀ p ∈ l, P s p) → Moves F B s (l.foldl f s)
  | [], _, _ => .refl
  | p :: l, s, hs => (h s p (hs p (by simp))).trans
      (foldl_setPub_moves h kept fun q hq => kept s p q (hs q (by simp [hq])))

theorem assemblePoint_moves (s : State) : Moves F B s (assemblePoint s).1 := by
  unfold assemblePoint
  extract_lets ps
  split
  · exact .refl
  · refine foldl_setPub_moves (f := markCarried) (P := fun t p => p ∈ t.publisher.list) (fun t p hp => ?_) (fun _ _ _ => id)
      fun p hp => List.mem_of_mem_take hp
    exact (Basic.publisher _ fun hs => setPub_publishLaw hs fun hs _ => hs.2.1 p hp).moves

theorem publishedPoint_moves (s : State) (p : Point) : Moves F B s (publishedPoint s p) := by
  unfold publishedPoint
  extract_lets r s1
  split
  next hcarried =>
    have h1 : PublishLaw s → PublishLaw s1 := fun hs => setPub_publishLaw hs fun hs _ => hs.2.2 p (.inr hcarried)
    split
    · exact (Basic.publisher _ h1).moves
    · refine (Basic.publisher (s := s) _ fun hs => ?_).moves
      obtain ⟨hnodup, hlist, hrec⟩ := h1 hs
      exact ⟨hnodup.filter _, fun q hq => hlist q (List.mem_of_mem_filter hq), hrec⟩
  next => exact .refl

theorem collidedPoint_moves (s : State) (p : Point) : Moves F B s (collidedPoint s p) :=
  (Basic.publisher _ fun hs => setPub_publishLaw hs fun hs h => hs.2.2 p (.inl (by simpa using h))).moves

/-! ### The Point Mirror (chapter 1) -/

theorem written_move {limit : Nat} {q : Quality} {h : Hit} {v : Option Half}
    (live : OwnerLaw s → s.control.state.runtime = true → (s.mirror.get p).inUse = true)
    (fits : ContentLaw s → s.control.state.runtime = true → (s.mirror.get p).inUse = true →
      contentFits (s.desc p).publish ((s.mirror.get p).written limit q h v) = true) :
    EntryMove s p ((s.mirror.get p).written limit q h v) :=
  ⟨rfl, rfl, rfl, Nat.zero_le _, live, fits⟩

theorem contentWrite_moves {q : Quality} {h : Hit} {v : Option Half} (ha : s.active = true)
    (move : EntryMove s p ((s.mirror.get p).written (s.desc p).freshness q h v)) :
    Moves F B s (contentWrite p q h v s) := .single (.content p _ s.events ha move id rfl)

/-- What a context that is within its rules supplies is content that the publish mode allows (R2, R7). -/
theorem contextValue_fits {d : PointDesc} {x : Context} (hd : debounceFits d x = true) (hx : sampleFits x = true)
    (e : MirrorEntry) (limit : Nat) :
    contentFits d.publish (e.written limit x.quality x.hit (contextValue d x)) = true := by
  have hhit : d.publish = .valueOnly → x.hit = .none := fun hmode => by
    simp only [debounceFits, hmode, if_true, Bool.and_eq_true, beq_iff_eq] at hd
    exact hd.1.1.1
  cases hmode : d.publish <;> cases hq : x.quality <;>
    simp_all [contentFits, MirrorEntry.written, contextValue, sampleFits]

theorem writeFromContext_moves (ha : s.active = true) (hi : (s.contexts.get i).point = some p) :
    Moves F B s (writeFromContext p (s.contexts.get i) s) := by
  refine contentWrite_moves ha (written_move (fun hs hrun => (hs.2 hrun).2 i p hi) fun hs hrun _ => ?_)
  obtain ⟨-, hdebounce, hsample⟩ := hs.1.2 hrun i p hi
  exact contextValue_fits hdebounce hsample _ _

/-- The content of a record that is not ignored has a value wherever its quality and the publish mode call for one (R131). -/
def Content.Fits (m : PublishMode) (x : Content) : Prop := x.quality = .good → m ≠ .hitOnly → x.value.isSome = true

theorem recordContent_fits {m : PublishMode} {r : Record} {x : Content} (h : recordContent m r = some x) : x.Fits m := by
  unfold recordContent at h
  split at h
  · cases h
  · split at h
    · cases h
    next hno =>
      obtain rfl := Option.some.inj h
      intro hgood hmode
      simp only [not_and, ne_eq] at hno
      exact Option.isSome_iff_ne_none.mpr fun hnone => hno hgood hnone hmode

theorem recordValue_fits {m : PublishMode} {x : Content} (hx : x.Fits m) (e : MirrorEntry) (limit : Nat) (held : Hit) :
    contentFits m (e.written limit x.quality (recordHit m held x.hit) (recordValue m x)) = true := by
  unfold Content.Fits at hx
  cases m <;> cases hq : x.quality <;>
    simp_all [contentFits, MirrorEntry.written, recordHit, recordValue]

theorem recordWrite_moves {x : Content} (ha : s.active = true) (huse : (s.mirror.get p).inUse = true)
    (hx : x.Fits (s.desc p).publish) : Moves F B s (recordWrite p x s) :=
  contentWrite_moves ha (written_move (fun _ _ => huse) fun _ _ _ => recordValue_fits hx _ _ _)

theorem freshnessExpired_moves (p : Point) (s : State) : Moves F B s (freshnessExpired p s) := by
  unfold freshnessExpired
  extract_lets e
  split
  next h =>
    simp only [Bool.and_eq_true, Timer.due_iff] at h
    obtain ⟨ha, hdue⟩ := h
    have hlive : OwnerLaw s → s.control.state.runtime = true → e.inUse = true := fun hs hrun => by
      obtain ⟨-, -, hunused⟩ := (hs.2 hrun).1 p
      by_contra hnot
      have hentry : e = unusedEntry e.age := hunused (by simpa using hnot)
      rw [hentry] at hdue
      cases hdue
    have hstale : e.quality = .good ∨ e.quality = .faulted →
        Moves F B s (passOn p e.quality e.hit
          (raise (.pointStale p) (s.setEntry p { e with quality := .stale, freshness := .stopped }))) := fun hq => by
      have move : EntryMove s p { e with quality := .stale, freshness := .stopped } := by
        refine ⟨rfl, rfl, rfl, le_rfl, hlive, fun hs hrun huse => ?_⟩
        have hfits := hs.2 hrun p huse
        rcases hq with hq | hq <;> cases hmode : (s.desc p).publish <;>
          simp_all [contentFits, e]
      rw [raise_eq]
      split
      · exact .single (.content p _ _ ha move (record_eventLaw _) (by simp))
      · exact .single (.content p _ _ ha move id rfl)
    have hstop : Moves F B s (s.setEntry p { e with freshness := .stopped }) :=
      (Basic.entry p { e with freshness := .stopped } ⟨rfl, rfl, rfl, le_rfl, hlive, fun hs hrun huse => by simpa [contentFits] using hs.2 hrun p huse⟩
        rfl rfl).moves
    split
    next hq => exact hstale (.inl hq)
    next hq => exact hstale (.inr hq)
    · exact hstop
    · exact hstop
  next => exact .refl

theorem clearLatch_moves (huse : (s.mirror.get p).inUse = true) : Moves F B s (clearLatch p s) :=
  (Basic.entry p { s.mirror.get p with latch := Latch.ofHit (s.mirror.get p).hit } ⟨rfl, rfl, rfl, le_rfl, fun _ _ => huse, fun hs hrun huse => by
    simpa [contentFits] using hs.2 hrun p huse⟩ rfl rfl).moves

end Sys2Proof.Machine

end

section

namespace Sys2Proof.Machine

open Sys2Proof.Safety Relation

variable {F : Group → Prop} {B : Prop} {s t : State} {p : Point} {g : Group} {i : Input} {c : CustodyEntry}

/-! ### The custody table (R74 to R80) -/

theorem setCustody_tableMove {c' : CustodyEntry} (hc : s.custody.table.get i = some c) (h : EntryKept c c') :
    TableMove s.custody.table (s.custody.table.set i (some c')) := by
  intro j
  by_cases hj : j = i
  · subst hj
    rw [hc, Table.get_set_self]
    exact .some h
  · rw [Table.get_set_ne _ _ hj]
    cases s.custody.table.get j with
    | none => exact .none
    | some x => exact .some ⟨rfl, rfl, id⟩

theorem setCustody_moves {c' : CustodyEntry} (hc : s.custody.table.get i = some c) (h : EntryKept c c') :
    Moves F B s (s.setCustody i c') := (Basic.table _ (setCustody_tableMove hc h)).moves

/-- A change of fields that every role has keeps an entry's law. -/
theorem EntryKept.of_fields {c' : CustodyEntry} (hp : c'.point = c.point) (hr : c'.role = c.role)
    (hy : c'.yieldDue = c.yieldDue) (hd : c'.reclaimDue = c.reclaimDue) (hw : c'.reclaimWait = c.reclaimWait)
    (hh : c'.holdoff = c.holdoff) (hl : c'.lapsed = c.lapsed) : EntryKept c c' :=
  ⟨hp, hr, by simp [custodyFits, hr, hy, hd, hw, hh, hl]⟩

/-- A change at a HOME entry keeps its law where it sets no yield due mark. -/
theorem EntryKept.of_home {c' : CustodyEntry} (hp : c'.point = c.point) (hr : c'.role = c.role) (hrole : c.role = .home)
    (hy : c'.yieldDue = c.yieldDue) : EntryKept c c' :=
  ⟨hp, hr, by simp [custodyFits, hr, hrole, hy]⟩

theorem reportLimit_moves (i : Input) (s : State) : Moves F B s (reportLimit i s) := by
  unfold reportLimit
  split
  next c hc =>
    split
    · exact .refl
    · refine (setCustody_moves hc ?_).trans (raise_moves _ _)
      exact .of_fields rfl rfl rfl rfl rfl rfl rfl
  next => exact .refl

theorem claimTrigger_moves (i : Input) (s : State) : Moves F B s (claimTrigger i s) := by
  unfold claimTrigger
  split
  next c hc =>
    split
    · split
      · exact reportLimit_moves i s
      · refine (setCustody_moves hc ?_).trans (offer_moves _ _)
        exact .of_fields rfl rfl rfl rfl rfl rfl rfl
    · exact .refl
  next => exact .refl

theorem reclaimTrigger_moves (i : Input) (s : State) : Moves F B s (reclaimTrigger i s) := by
  unfold reclaimTrigger
  split
  next c hc =>
    split
    next h =>
      have hrole : c.role = .home := by
        simp only [State.reclaimHolds, Bool.and_eq_true, beq_iff_eq] at h
        exact h.1.1.1.1.1
      split
      · exact reportLimit_moves i s
      · refine (setCustody_moves hc ?_).trans (offer_moves _ _)
        exact .of_home rfl rfl hrole rfl
    next => exact .refl
  next => exact .refl

theorem reexamine_moves (i : Input) (s : State) : Moves F B s (reexamine i s) := by
  unfold reexamine
  split
  · exact (claimTrigger_moves i s).trans (reclaimTrigger_moves i _)
  · exact .refl

theorem reexamineWhere_moves (f : CustodyEntry → Bool) (s : State) : Moves F B s (reexamineWhere f s) := by
  unfold reexamineWhere
  refine foldl_rel (fun _ => .refl) .trans (fun s i => ?_) _ s
  split
  · split
    · exact reexamine_moves i s
    · exact .refl
  · exact .refl

theorem markYield_moves (i : Input) (s : State) : Moves F B s (markYield i s) := by
  unfold markYield
  split
  next c hc =>
    split
    · exact .refl
    next hrole =>
      split
      · exact reportLimit_moves i s
      · split
        · exact .refl
        · have hstandby : c.role = .standby := by cases h : c.role <;> simp_all
          have hkept : EntryKept c { c with yieldDue := true } := ⟨rfl, rfl, by simp [custodyFits, hstandby]⟩
          exact (setCustody_moves hc hkept).trans (offer_moves _ _)
  next => exact .refl

theorem takeReclaimPoint_moves (a : Station) (s : State) (b : Byte) : Moves F B s (takeReclaimPoint a s b) := by
  unfold takeReclaimPoint
  split
  · split
    · split
      · exact markYield_moves _ s
      · exact .refl
    · exact .refl
  · exact .refl

theorem claimRetryExpired_moves (i : Input) (s : State) : Moves F B s (claimRetryExpired i s) := by
  unfold claimRetryExpired
  split
  next c hc =>
    split
    · refine (setCustody_moves hc ?_).trans (reexamine_moves i _)
      exact .of_fields rfl rfl rfl rfl rfl rfl rfl
    · exact .refl
  next => exact .refl

theorem reclaimWaitExpired_moves (i : Input) (s : State) : Moves F B s (reclaimWaitExpired i s) := by
  unfold reclaimWaitExpired
  split
  next c hc =>
    split
    next h =>
      simp only [Bool.and_eq_true, Timer.due_iff] at h
      have hkept : ∀ l, EntryKept c { c with reclaimWait := .stopped, lapsed := l } := fun l => by
        refine ⟨rfl, rfl, fun hfits => ?_⟩
        cases hrole : c.role with
        | home => simpa [custodyFits, hrole] using hfits
        | standby => simp [custodyFits, hrole, h.2] at hfits
      split
      · exact ((setCustody_moves hc (hkept true)).trans (raise_moves _ _)).trans (reexamine_moves i _)
      · exact (setCustody_moves hc (hkept c.lapsed)).trans (reexamine_moves i _)
    next => exact .refl
  next => exact .refl

theorem holdoff_stopped_kept (c : CustodyEntry) : EntryKept c { c with holdoff := .stopped } := by
  refine ⟨rfl, rfl, fun hfits => ?_⟩
  cases hrole : c.role with
  | home => simpa [custodyFits, hrole] using hfits
  | standby =>
    simp [custodyFits, hrole] at hfits ⊢
    tauto

theorem holdoffExpired_moves (i : Input) (s : State) : Moves F B s (holdoffExpired i s) := by
  unfold holdoffExpired
  split
  next c hc =>
    split
    · exact (setCustody_moves hc (holdoff_stopped_kept c)).trans (reexamine_moves i _)
    · exact .refl
  next => exact .refl

/-- The custody table changed entry by entry. -/
theorem map_tableMove {f : CustodyEntry → CustodyEntry} (hf : ∀ c, EntryKept c (f c)) :
    TableMove s.custody.table (s.custody.table.map (fun o => o.map f)) := by
  intro i
  rw [Table.get_map]
  cases s.custody.table.get i with
  | none => exact .none
  | some c => exact .some (hf c)

theorem stopHoldoffs_moves (s : State) : Moves F B s (stopHoldoffs s) := by
  refine (Basic.table _ (map_tableMove fun c => ?_)).moves
  split
  · exact holdoff_stopped_kept c
  · exact ⟨rfl, rfl, id⟩

theorem mapCustody_moves {f : CustodyEntry → CustodyEntry} (hf : ∀ c, c.point = p → EntryKept c (f c)) :
    Moves F B s (s.mapCustody p f) := (mapCustody_basic hf).moves

/-! ### Assembly and completion of custody frames (R81 to R83, R134) -/

theorem setCustody_reportLimit_moves {c' : CustodyEntry} (hc : s.custody.table.get i = some c) (h : EntryKept c c') :
    Moves F B s (reportLimit i (s.setCustody i c')) := (setCustody_moves hc h).trans (reportLimit_moves i _)

theorem claimPoint_moves (x : State × List CustodyRecord) (p : Point) : Moves F B x.1 (claimPoint x p).1 := by
  have hkept : ∀ (c : CustodyEntry) (b : Bool) (r : Timer), EntryKept c { c with claimDue := b, claimRetry := r } :=
    fun c b r => .of_fields rfl rfl rfl rfl rfl rfl rfl
  unfold claimPoint
  extract_lets s
  split
  · split
    next c hc =>
      split
      · split
        · split
          · exact setCustody_reportLimit_moves hc (hkept c _ _)
          · exact setCustody_moves hc (hkept c _ _)
        · exact setCustody_moves hc (hkept c _ _)
      · exact .refl
    next => exact .refl
  · exact .refl

theorem reclaimPoint_moves (x : State × List Byte) (p : Point) : Moves F B x.1 (reclaimPoint x p).1 := by
  have hkept : ∀ c : CustodyEntry, EntryKept c { c with reclaimDue := false } := fun c => by
    refine ⟨rfl, rfl, fun hfits => ?_⟩
    cases hrole : c.role with
    | home => simpa [custodyFits, hrole] using hfits
    | standby =>
      simp [custodyFits, hrole] at hfits ⊢
      tauto
  unfold reclaimPoint
  extract_lets s
  split
  · split
    next c hc =>
      split
      · split
        · split
          · exact setCustody_reportLimit_moves hc (hkept c)
          · exact .refl
        · exact setCustody_moves hc (hkept c)
      · exact .refl
    next => exact .refl
  · exact .refl

theorem yieldDue_cleared_kept (c : CustodyEntry) : EntryKept c { c with yieldDue := false } := by
  refine ⟨rfl, rfl, fun hfits => ?_⟩
  cases hrole : c.role with
  | home => simp [custodyFits]
  | standby => simpa [custodyFits, hrole] using hfits

theorem yieldPoint_moves (x : State × List CustodyRecord) (p : Point) : Moves F B x.1 (yieldPoint x p).1 := by
  unfold yieldPoint
  extract_lets s
  split
  · split
    next c hc =>
      split
      · split
        · split
          · exact setCustody_reportLimit_moves hc (yieldDue_cleared_kept c)
          · exact .refl
        · exact setCustody_moves hc (yieldDue_cleared_kept c)
      · exact .refl
    next => exact .refl
  · exact .refl

theorem assemble_moves {α : Type} {f : State × List α → Point → State × List α}
    (h : ∀ x p, Moves F B x.1 (f x p).1) (s : State) : Moves F B s ((List.finRange 64).foldl f (s, [])).1 :=
  foldl_rel (R := fun (x y : State × List α) => Moves F B x.1 y.1) (fun _ => .refl) .trans h _ (s, [])

theorem claimCompleted_moves (s : State) (p : Point) : Moves F B s (claimCompleted s p) :=
  mapCustody_moves fun _ _ => .of_fields rfl rfl rfl rfl rfl rfl rfl

theorem reclaimCompleted_moves (s : State) (p : Point) : Moves F B s (reclaimCompleted s p) := by
  refine mapCustody_moves fun c _ => ⟨rfl, rfl, fun hfits => ?_⟩
  cases hrole : c.role with
  | home => simpa [custodyFits, hrole] using hfits
  | standby =>
    simp [custodyFits, hrole] at hfits ⊢
    tauto

theorem yieldCompleted_moves (s : State) (p : Point) : Moves F B s (yieldCompleted s p) :=
  mapCustody_moves fun c _ => yieldDue_cleared_kept c

theorem reofferCustody_moves (s : State) : Moves F B s (reofferCustody s) := by
  unfold reofferCustody
  extract_lets marked wanted
  refine foldl_rel (R := fun (x y : State × Bool) => Moves F B x.1 y.1) (fun _ => .refl) .trans ?_ _ (s, false)
  intro x r
  split
  · exact .refl
  · split
    next q hq => exact (offerTo_basic hq).moves
    next => exact .refl

theorem departure_moves (s : State) : Moves F B s (departure s) :=
  (reofferTripped_moves s).trans (reofferCustody_moves _)

/-! ### Notices (R72, R73) -/

theorem placeNotice_moves (p : Point) (s : State) : Moves F B s (placeNotice p s) := by
  unfold placeNotice
  extract_lets e
  split
  · exact (Basic.notices _ fun hs => placeIn_law hs.1 hs.2).moves
  · exact .refl

/-- A notice list with some entries left out keeps its law. -/
theorem filterNotices_moves (f : Notice → Bool) (s : State) :
    Moves F B s (s.withNotices (s.custody.notices.filter f)) :=
  (Basic.notices _ fun hs => ⟨(List.filter_sublist.map _).nodup hs.1, (List.length_filter_le f _).trans hs.2⟩).moves

/-! ### The debounce state of a context (R28, R36 to R38, R43) -/

/-- The image that validation passed gives every point in use an assert and a clear count of at least 1 (R151). -/
theorem counts_of_validate {m : List Host.Cell} (h : validate m = .none) (p : Point) (hused : (pointDesc m p).used = true) :
    1 ≤ (pointDesc m p).assertCount ∧ 1 ≤ (pointDesc m p).clearCount := by
  have hfails : pointFails m p = false := by
    unfold validate at h
    repeat' split at h
    all_goals cases h
    next hfind _ _ _ _ _ _ => simpa using (List.find?_eq_none.mp hfind) p (List.mem_finRange p)
  have hfit : pointFits (pointDesc m p) = true := by simpa [pointFails, hused] using hfails
  simp only [pointFits, Bool.and_eq_true, decide_eq_true_eq] at hfit
  tauto

end Sys2Proof.Machine

end

section

namespace Sys2Proof.Machine

open Sys2Proof.Safety Relation

variable {F : Group → Prop} {B : Prop} {s t : State} {p : Point} {g : Group} {i : Input}

/-! ### A context within what its rules reach (R28) -/

/-- The debounce state of an evaluated point: a hit, and progress towards clearing or towards another side. -/
theorem debounceFits_iff {d : PointDesc} (hmode : d.publish ≠ .valueOnly) (c : Context) :
    debounceFits d c = true ↔ c.hit ≠ .none ∧
      ((c.candidate = none ∧ c.assertProgress = 0 ∧ c.clearProgress ≤ d.clearCount ∧
          (c.hit = .clear ∨ c.clearProgress < d.clearCount)) ∨
        ∃ x, c.candidate = some x ∧ c.hit ≠ .side x ∧ c.assertProgress < d.assertCount ∧ c.clearProgress = 0) := by
  unfold debounceFits
  rw [if_neg hmode]
  cases c.candidate with
  | none => simp [and_assoc]
  | some x => simp [and_assoc]

theorem debounceFits_valueOnly_iff {d : PointDesc} (hmode : d.publish = .valueOnly) (c : Context) :
    debounceFits d c = true ↔
      c.hit = .none ∧ c.candidate = none ∧ c.assertProgress = 0 ∧ c.clearProgress = 0 := by
  simp [debounceFits, hmode, and_assoc]

section

variable {d : PointDesc} {c : Context} (hassert : 1 ≤ d.assertCount) (hclear : 1 ≤ d.clearCount)

include hclear in
theorem evaluateFaultFlag_fits (hc : debounceFits d c = true) : debounceFits d (evaluateFaultFlag c) = true := by
  by_cases hmode : d.publish = .valueOnly
  · rw [debounceFits_valueOnly_iff hmode] at hc ⊢
    exact ⟨hc.1, rfl, rfl, rfl⟩
  · rw [debounceFits_iff hmode] at hc ⊢
    exact ⟨hc.1, .inl ⟨rfl, rfl, Nat.zero_le _, .inr hclear⟩⟩

theorem countClear_fits (hmode : d.publish ≠ .valueOnly) (hc : debounceFits d c = true) :
    debounceFits d (countClear d c) = true := by
  rw [debounceFits_iff hmode] at hc ⊢
  unfold countClear
  extract_lets n c1
  split
  · exact ⟨by simp, .inl ⟨rfl, rfl, Nat.zero_le _, .inl rfl⟩⟩
  next hn =>
    refine ⟨hc.1, .inl ⟨rfl, rfl, min_le_right _ _, ?_⟩⟩
    by_cases hhit : c.hit = .clear
    · exact .inl hhit
    · have hlt : n ≠ d.clearCount := fun h => hn ⟨h, hhit⟩
      have hle : n ≤ d.clearCount := min_le_right _ _
      exact .inr (lt_of_le_of_ne hle hlt)

include hclear in
theorem confirmHit_fits (hmode : d.publish ≠ .valueOnly) (hc : debounceFits d c = true) :
    debounceFits d (confirmHit c) = true := by
  rw [debounceFits_iff hmode] at hc ⊢
  exact ⟨hc.1, .inl ⟨rfl, rfl, Nat.zero_le _, .inr hclear⟩⟩

include hclear in
theorem countAssert_fits {x : Side} (hmode : d.publish ≠ .valueOnly) (hc : debounceFits d c = true)
    (hx : c.hit ≠ .side x) : debounceFits d (countAssert d x c) = true := by
  rw [debounceFits_iff hmode] at hc ⊢
  unfold countAssert
  extract_lets n c1
  split
  · exact ⟨by simp, .inl ⟨rfl, rfl, Nat.zero_le _, .inr hclear⟩⟩
  next hn => exact ⟨hc.1, .inr ⟨x, rfl, hx, Nat.lt_of_not_le hn, rfl⟩⟩

include hclear in
theorem evaluateLimits_fits {v : Half} (hmode : d.publish ≠ .valueOnly) (hc : debounceFits d c = true) :
    debounceFits d (evaluateLimits d c v) = true := by
  have hgood : debounceFits d { c with quality := .good, lastValue := some v } = true := hc
  unfold evaluateLimits
  extract_lets c0
  split
  · split
    · exact hgood
    · exact countClear_fits hmode hgood
  next x hx =>
    split
    · exact confirmHit_fits hclear hmode hgood
    next hhit => exact countAssert_fits hclear hmode hgood hhit

include hclear in
/-- The evaluation of one sample leaves the debounce state within what the rules reach (R33 to R38). -/
theorem evaluateSample_fits {w : SampleWord} (hc : debounceFits d c = true) :
    debounceFits d (evaluateSample d w c) = true := by
  unfold evaluateSample
  split
  · exact evaluateFaultFlag_fits hclear hc
  · split
    next hmode => exact (debounceFits_valueOnly_iff hmode _).mpr ⟨rfl, rfl, rfl, rfl⟩
    next hmode => exact evaluateLimits_fits hclear hmode hc

include hassert hclear in
/-- Loading the debounce state of a YIELD record leaves it within what the rules reach (R43). -/
theorem loadContext_fits {h : Hit} {w : Handover} (hc : debounceFits d c = true) :
    debounceFits d (loadContext d h w c) = true := by
  by_cases hmode : d.publish = .valueOnly
  · rw [debounceFits_valueOnly_iff hmode]
    have hcand : ∀ x y, loadedCandidate d x y = none := fun x y => by cases y <;> simp [loadedCandidate, hmode]
    simp [loadContext, loadedHit, hmode, hcand]
  · have hown := ((debounceFits_iff hmode c).mp hc).1
    rw [debounceFits_iff hmode]
    unfold loadContext
    extract_lets x cand
    have hx : x ≠ .none := by
      simp only [x, loadedHit, if_neg hmode]
      split
      · exact hown
      · simp
      · split <;> simp [hown]
    refine ⟨hx, ?_⟩
    cases hcand : cand with
    | none =>
      refine .inl ⟨rfl, by simp, ?_⟩
      by_cases hclr : x = .clear
      · exact ⟨by simp [hmode, hclr], .inl hclr⟩
      · have hlt : min w.clearProgress (d.clearCount - 1) < d.clearCount := by omega
        exact ⟨by simp only [hclr, hmode]; simp, .inr (by simpa [hmode, hclr] using hlt)⟩
    | some y =>
      refine .inr ⟨y, rfl, ?_, by simp; omega, by simp⟩
      have hloaded : loadedCandidate d x w.candidate = some y := hcand
      unfold loadedCandidate at hloaded
      split at hloaded
      · cases hloaded
      next z _ =>
        split at hloaded
        next hz =>
          obtain rfl := Option.some.inj hloaded
          exact hz.2.2
        next => cases hloaded

end

/-- A sample on an evaluated point makes the quality GOOD with its value, and keeps the point and the role (R36 to R38). -/
theorem evaluateLimits_fields (d : PointDesc) (c : Context) (v : Half) :
    (evaluateLimits d c v).quality = .good ∧ (evaluateLimits d c v).lastValue = some v ∧
      (evaluateLimits d c v).point = c.point ∧ (evaluateLimits d c v).role = c.role := by
  have hclear : ∀ x : Context, (countClear d x).quality = x.quality ∧ (countClear d x).lastValue = x.lastValue ∧
      (countClear d x).point = x.point ∧ (countClear d x).role = x.role := fun x => by
    unfold countClear; dsimp only; split <;> exact ⟨rfl, rfl, rfl, rfl⟩
  have hassert : ∀ (x : Context) (y : Side), (countAssert d y x).quality = x.quality ∧
      (countAssert d y x).lastValue = x.lastValue ∧ (countAssert d y x).point = x.point ∧
      (countAssert d y x).role = x.role := fun x y => by
    unfold countAssert
    extract_lets n x1
    by_cases hn : d.assertCount ≤ n
    · rw [if_pos hn]; exact ⟨rfl, rfl, rfl, rfl⟩
    · rw [if_neg hn]; exact ⟨rfl, rfl, rfl, rfl⟩
  unfold evaluateLimits
  extract_lets c0
  split
  · split
    · exact ⟨rfl, rfl, rfl, rfl⟩
    · exact hclear c0
  · split
    · exact ⟨rfl, rfl, rfl, rfl⟩
    · exact hassert c0 _

/-- The last value of a context goes with the quality that one sample gives it (R33, R34). -/
theorem evaluateSample_sampleFits (d : PointDesc) (w : SampleWord) (c : Context) :
    sampleFits (evaluateSample d w c) = true := by
  unfold evaluateSample
  split
  · rfl
  · split
    · rfl
    · obtain ⟨hquality, hvalue, -⟩ := evaluateLimits_fields d c w.value
      simp [sampleFits, hquality, hvalue]

/-- One sample keeps the point and the role of its context. -/
theorem evaluateSample_point_role (d : PointDesc) (w : SampleWord) (c : Context) :
    (evaluateSample d w c).point = c.point ∧ (evaluateSample d w c).role = c.role := by
  unfold evaluateSample
  split
  · exact ⟨rfl, rfl⟩
  · split
    · exact ⟨rfl, rfl⟩
    · exact (evaluateLimits_fields d c w.value).2.2

theorem evaluateSample_moves {w : SampleWord} (hi : (s.contexts.get i).point = some p) :
    Moves F B s (s.setContext i (evaluateSample (s.desc p) w (s.contexts.get i))) := by
  obtain ⟨hpoint, hrole⟩ := evaluateSample_point_role (s.desc p) w (s.contexts.get i)
  refine (Basic.contexts _ ⟨fun j => get_set_congr Context.point _ i j hpoint,
    fun j => get_set_congr Context.role _ i j hrole, fun hvalid j q hq hused hdebounce hsample => ?_⟩).moves
  by_cases hj : j = i
  · subst hj
    rw [Table.get_set_self] at hq ⊢
    obtain rfl : p = q := by rw [hpoint, hi] at hq; exact Option.some.inj hq
    exact ⟨evaluateSample_fits (counts_of_validate hvalid p hused).2 hdebounce, evaluateSample_sampleFits _ _ _⟩
  · rw [Table.get_set_ne _ _ hj]
    exact ⟨hdebounce, hsample⟩

theorem mapBound_loadContext_moves (p : Point) (h : Hit) (w : Handover) (s : State) :
    Moves F B s (s.mapBound p (loadContext (s.desc p) h w)) := by
  refine (Basic.contexts _ ⟨fun j => ?_, fun j => ?_, fun hvalid j q hq hused hdebounce hsample => ?_⟩).moves
  · rw [Table.get_map]; split <;> rfl
  · rw [Table.get_map]; split <;> rfl
  · rw [Table.get_map] at hq ⊢
    by_cases hp : (s.contexts.get j).point = some p
    · rw [if_pos hp] at hq ⊢
      obtain rfl : p = q := Option.some.inj (hp.symm.trans hq)
      obtain ⟨ha, hc⟩ := counts_of_validate hvalid p hused
      exact ⟨loadContext_fits ha hc hdebounce, hsample⟩
    · rw [if_neg hp]
      exact ⟨hdebounce, hsample⟩

theorem loadHandover_moves (p : Point) (w : Carried) (s : State) : Moves F B s (loadHandover p w s) := by
  unfold loadHandover
  split
  · exact mapBound_loadContext_moves p _ _ s
  · exact .refl
  · exact .refl
  · exact .refl

/-! ### A decision applied (R69 to R71) -/

theorem boundInput_eq_some {s : State} {p : Point} {i : Input} (h : s.boundInput p = some i) :
    (s.contexts.get i).point = some p := by
  simpa using List.find?_some h

theorem promotionWrite_moves (ha : s.active = true) : Moves F B s (promotionWrite p s) := by
  unfold promotionWrite State.boundContext
  cases hi : s.boundInput p with
  | none => exact .refl
  | some i => exact writeFromContext_moves ha (boundInput_eq_some hi)

theorem contentWrite_owner {q : Quality} {h : Hit} {v : Option Half} (s : State) :
    ((contentWrite p q h v s).mirror.get p).owner = (s.mirror.get p).owner := by
  rw [contentWrite_entry]; rfl

theorem promotionWrite_owner (p : Point) (s : State) :
    ((promotionWrite p s).mirror.get p).owner = (s.mirror.get p).owner := by
  unfold promotionWrite
  split
  · exact contentWrite_owner s
  · rfl

theorem promote_moves {e : Epoch} {path : AcquirePath} (hp : Acts s p) : Moves F B s (promote p e path s) := by
  unfold promote
  extract_lets s1
  have h1 : Moves F B s s1 := raise_moves _ s
  have h2 : Moves F B s (promotionWrite p s1) := h1.trans (promotionWrite_moves (h1.active hp.1))
  have hacts : Acts (promotionWrite p s1) p := by
    refine ⟨h2.active hp.1, ?_⟩
    rw [promotionWrite_owner, State.own_congr h2.stays.control, raise_mirror]
    exact hp.2
  exact (h2.trans (makeDue_basic hacts).moves).trans (mapCustody_moves fun c _ => promotedCustody_kept c)

theorem loadHandover_mirror (p : Point) (w : Carried) (s : State) : (loadHandover p w s).mirror = s.mirror := by
  unfold loadHandover; split <;> rfl

/-- Steps 1 and 2 of R69: the owner and epoch set, with a demotion or a promotion where the point changes hands here. -/
theorem changeCustody_moves {o : Station} {e : Epoch} (w : Carried) (ha : s.active = true) (move : OwnMove s p o e) :
    Moves F B s (changeCustody p (s.mirror.get p) o e w (setOwner p o e s)) := by
  unfold changeCustody
  by_cases hsame : (s.mirror.get p).owner = some o
  · rw [if_pos hsame]
    exact (Basic.own p o e move fun hown => Option.some.inj (hsame.symm.trans hown)).moves
  rw [if_neg hsame, setOwner_own]
  by_cases hown : (s.mirror.get p).owner = some s.own
  · rw [if_pos hown]
    exact .single (.lose p o e _ move hown fun h => hsame (h ▸ hown))
  rw [if_neg hown]
  have hset : Moves F B s (setOwner p o e s) := (Basic.own p o e move fun h => absurd h hown).moves
  by_cases ho : o = s.own
  · rw [if_pos ho]
    have hload : Moves F B s (loadHandover p w (setOwner p o e s)) := hset.trans (loadHandover_moves p w _)
    refine hload.trans (promote_moves ⟨hload.active ha, ?_⟩)
    rw [loadHandover_mirror, State.own_congr hload.stays.control]
    simp [ho]
  · rw [if_neg ho]
    exact hset

/-- A decision that gives an owner gives one of the stations that serve the point, and an epoch that is not lower (R66, R67). -/
def Verdict.Sound (s : State) (p : Point) : Verdict → Prop
  | .foreign => True
  | .rejected _ => True
  | .accepted o e _ => OwnMove s p o e

theorem setOwner_inUse (p q : Point) (o : Station) (e : Epoch) (s : State) :
    ((setOwner p o e s).mirror.get q).inUse = (s.mirror.get q).inUse := by
  by_cases hq : q = p
  · subst hq; simp
  · simp [hq]

theorem Basic.inUse (h : Basic F B s t) (q : Point) : (t.mirror.get q).inUse = (s.mirror.get q).inUse := by
  cases h with
  | group moves used standing => rw [moves.voterStep.mirror]
  | evaluate moves used state => rw [(moves.voterStep.trans (evaluate_voterStep _ _)).mirror]
  | entry p e move quality hit => exact get_set_congr MirrorEntry.inUse _ p q move.inUse
  | own p o e move kept => exact setOwner_inUse p q o e s
  | _ => rfl

theorem Moves.inUse (h : Moves F B s t) (q : Point) : (t.mirror.get q).inUse = (s.mirror.get q).inUse := by
  refine keeps_of_step (L := fun u => (u.mirror.get q).inUse = (s.mirror.get q).inUse) (fun hm hs => ?_) h rfl
  exact hm.keeps (L := fun u => (u.mirror.get q).inUse = (s.mirror.get q).inUse) (fun hb hu => (hb.inUse q).trans hu)
    (fun move hu => (get_set_congr MirrorEntry.inUse _ _ q move.inUse).trans hu)
    (fun _ hu => (setOwner_inUse _ q _ _ _).trans hu) hs

theorem writeContent_moves {w : Carried} (ha : s.active = true) (huse : (s.mirror.get p).inUse = true)
    (hw : ∀ x, w.content = some x → x.Fits (s.desc p).publish) : Moves F B s (writeContent p w s) := by
  unfold writeContent
  split
  next x hx =>
    split
    · exact .refl
    · exact recordWrite_moves ha huse (hw x hx)
  next => exact .refl

/-- A decision applied, in the five steps of R69. -/
theorem applyVerdict_moves {v : Verdict} {w : Carried} (ha : s.active = true) (hv : v.Sound s p)
    (hw : ∀ x, w.content = some x → x.Fits (s.desc p).publish) : Moves F B s (applyVerdict p v w s) := by
  unfold applyVerdict
  split
  · exact .refl
  · split
    · exact placeNotice_moves p s
    · exact .refl
  next o e n =>
    extract_lets old s1 s2 s3
    have h1 : Moves F B s s1 := changeCustody_moves w ha hv
    have h2 : Moves F B s s2 := by
      by_cases hn : n = true
      · rw [show s2 = placeNotice p s1 from if_pos hn]; exact h1.trans (placeNotice_moves p s1)
      · rw [show s2 = s1 from if_neg hn]; exact h1
    have h3 : Moves F B s s3 := by
      refine h2.trans (writeContent_moves (h2.active ha) ?_ fun x hx => ?_)
      · rw [h2.inUse]; exact hv.inUse
      · rw [State.desc_congr h2.stays.control]; exact hw x hx
    split
    · exact h3
    · exact h3.trans (reexamineWhere_moves _ s3)

theorem maxEpoch_ge (m e : Epoch) : m ≤ maxEpoch m e := by
  unfold maxEpoch
  split
  next h => exact BitVec.le_def.mpr h.le
  next => exact BitVec.le_def.mpr le_rfl

theorem acceptance_sound (a : Station) (e : Epoch) (n : Bool) :
    (acceptance (s.desc p) (s.mirror.get p) a e n).Sound s p := by
  unfold acceptance
  split
  · trivial
  next hserves =>
    simp only [not_or, Bool.not_eq_false] at hserves
    obtain ⟨huse, hserves⟩ := hserves
    split
    · exact ⟨huse, hserves, maxEpoch_ge _ _⟩
    · split
      next hlt => exact ⟨huse, hserves, BitVec.le_def.mpr hlt.le⟩
      · split
        next heq => exact ⟨huse, hserves, BitVec.le_def.mpr (congrArg BitVec.toNat heq.1).ge⟩
        next => trivial

theorem yieldAcceptance_sound (a : Station) (e : Epoch) :
    (yieldAcceptance (s.desc p) (s.mirror.get p) a e).Sound s p := by
  unfold yieldAcceptance
  split
  · trivial
  next hserves =>
    simp only [not_or, Bool.not_eq_false] at hserves
    obtain ⟨huse, -⟩ := hserves
    split
    · trivial
    next h hhome =>
      have hserves : (s.desc p).serves h = true := by simp [PointDesc.serves, hhome]
      split
      · exact ⟨huse, hserves, maxEpoch_ge _ _⟩
      · split
        next hle => exact ⟨huse, hserves, BitVec.le_def.mpr hle.2⟩
        next => trivial

theorem takeStatement_moves (b : Byte) (a : Option Station) (e : Epoch) (n : Bool) (ha : s.active = true) :
    Moves F B s (takeStatement b a e n s) := by
  unfold takeStatement
  split
  · exact applyVerdict_moves ha (acceptance_sound _ _ _) (by simp)
  · exact .refl
  · exact .refl

theorem takePointRecord_moves (a : Station) (s : State) (r : Record) (ha : s.active = true) :
    Moves F B s (takePointRecord a s r) := by
  unfold takePointRecord
  split
  · split
    next x hx =>
      exact applyVerdict_moves ha (acceptance_sound _ _ _) fun y hy => Option.some.inj hy ▸ recordContent_fits hx
    next => exact .refl
  · exact .refl

theorem takeClaimRecord_moves (a : Station) (s : State) (r : CustodyRecord) (ha : s.active = true) :
    Moves F B s (takeClaimRecord a s r) := by
  unfold takeClaimRecord
  split
  · split
    next x _ hx _ =>
      exact applyVerdict_moves ha (acceptance_sound _ _ _) fun y hy => Option.some.inj hy ▸ recordContent_fits hx
    · exact .refl
    · exact .refl
  · exact .refl

theorem takeYieldRecord_moves (a : Station) (s : State) (r : CustodyRecord) (ha : s.active = true) :
    Moves F B s (takeYieldRecord a s r) := by
  unfold takeYieldRecord
  split
  · split
    next x _ hx _ =>
      exact applyVerdict_moves ha (yieldAcceptance_sound _ _) fun y hy => Option.some.inj hy ▸ recordContent_fits hx
    · exact .refl
    · exact .refl
  · exact .refl

theorem takeStatements_moves (a : Station) (ps : List ActedPair) (ns : List WireNotice) (ha : s.active = true) :
    Moves F B s (takeStatements a ps ns s) := by
  have hpairs : Moves F B s (ps.foldl (fun s x => takeStatement x.point (some a) x.epoch false s) s) :=
    foldl_moves (fun _ x hs => takeStatement_moves x.point (some a) x.epoch false hs) ps ha
  exact hpairs.trans (foldl_moves
    (fun _ n hs => takeStatement_moves n.point (stationOfByte n.owner) n.epoch true hs) ns (hpairs.active ha))

end Sys2Proof.Machine

end

section

namespace Sys2Proof.Machine

open Sys2Proof.Safety Relation

variable {F : Group → Prop} {B : Prop} {s t : State} {a : Station} {f : Frame} {bs : List Byte}

/-! ### The Roster (chapter 7) -/

/-- A roster entry of another station replaced by one whose silence timer goes with its state (R113, R118). -/
theorem setRoster_basic {r : RosterEntry} (hr : r.silence ≠ .stopped ↔ r.state = .present) (hself : r.state ≠ .self)
    (hother : RosterLaw s → (s.roster.entries.get a).state ≠ .self) : Basic F B s (s.setRoster a r) := by
  refine .roster _ fun hs => ⟨hs.1, fun b => ?_⟩
  by_cases hb : b = a
  · subst hb
    obtain ⟨-, hown, -⟩ := hs.2 b
    have hnot : ¬ (s.control.state.runtime = true ∧ b = s.own) := fun h => hother hs (hown.mpr h)
    rw [Table.get_set_self]
    exact ⟨hr, ⟨fun h => absurd h hself, fun h => absurd h hnot⟩, fun h => absurd h hself⟩
  · rw [Table.get_set_ne _ _ hb]
    exact hs.2 b

theorem RosterLaw.other (hs : RosterLaw s) (ha : a ≠ s.own) : (s.roster.entries.get a).state ≠ .self := fun h =>
  ha ((hs.2 a).2.1.mp h).2

theorem setStanding_moves {r : RosterEntry} (hr : r.silence ≠ .stopped ↔ r.state = .present) (hself : r.state ≠ .self)
    (hother : RosterLaw s → (s.roster.entries.get a).state ≠ .self) : Moves F B s (setStanding a r s) := by
  have hset : Moves F B s (s.setRoster a r) := (setRoster_basic hr hself hother).moves
  unfold setStanding
  split
  · exact hset
  · exact (hset.trans (raise_moves _ _)).trans (reexamineWhere_moves _ _)

theorem compareDigest_moves (digest : Word) (ha : a ≠ s.own) : Moves F B s (compareDigest a digest s) := by
  unfold compareDigest
  split
  · exact setStanding_moves (by simp) (by simp) fun hs => RosterLaw.other hs ha
  · exact setStanding_moves (by simp) (by simp) fun hs => RosterLaw.other hs ha

theorem takePresence_moves {own : Bool} {digest : Word} {ps : List ActedPair} {ns : List WireNotice}
    (hactive : s.active = true) (ha : own = false → a ≠ s.own) : Moves F B s (takePresence a own digest ps ns s) := by
  unfold takePresence
  split
  · exact takeStatements_moves a ps ns hactive
  next hown =>
    have h1 : Moves F B s (compareDigest a digest s) := compareDigest_moves digest (ha (by simpa using hown))
    extract_lets s1
    split
    · exact h1.trans (takeStatements_moves a ps ns (Moves.active h1 hactive))
    · exact h1

theorem silenceExpired_moves (a : Station) (s : State) : Moves F B s (silenceExpired a s) := by
  unfold silenceExpired
  extract_lets r
  split
  next h =>
    simp only [Bool.and_eq_true, beq_iff_eq] at h
    exact setStanding_moves (by simp) (by simp) fun _ => by simp [show (s.roster.entries.get a).state = _ from h.2]
  next => exact .refl

/-- The roster replaced, its entries kept. -/
theorem roster_basic {r : Roster} (h : r.entries = s.roster.entries) : Basic F B s { s with roster := r } :=
  .roster _ fun hs => ⟨hs.1, fun b => by
    show (_ ↔ _) ∧ _
    rw [h]
    exact hs.2 b⟩

theorem roster_moves {r : Roster} (h : r.entries = s.roster.entries) : Moves F B s { s with roster := r } :=
  (roster_basic h).moves

theorem presenceExpired_moves (s : State) : Moves F B s (presenceExpired s) := by
  unfold presenceExpired
  split
  · exact roster_moves rfl
  · exact .refl

theorem completePresence_moves (ns : List WireNotice) (s : State) : Moves F B s (completePresence ns s) :=
  (roster_moves (r := { s.roster with presencePending := false, firstPresence := true }) rfl).trans
    (filterNotices_moves _ _)

theorem noteHeard_moves {own : Bool} (h : admitted s own f = true) : Moves F B s (noteHeard f own s) := by
  have hrestart : (s.roster.entries.get f.sender).state = .present → Moves F B s (restartSilence f.sender s) := fun hp =>
    (setRoster_basic (by simp [hp]) (by simp [hp]) fun _ => by simp [hp]).moves
  unfold noteHeard
  split
  · exact .refl
  next hown =>
    simp only [admitted, hown, Bool.false_or] at h
    split
    · exact .refl
    all_goals
      next hpayload =>
        rw [hpayload] at h
        exact hrestart (by simpa using h)

/-! ### Received frames (8.2) -/

/-- The link fields replaced, but for the urgent queue: the counts stay within their limits, and no frame is begun. -/
theorem link_moves {l : Link} (hu : l.urgent = s.link.urgent) (hr : s.link.rejected ≤ Config.rejectedLimit → l.rejected ≤ Config.rejectedLimit)
    (hf : s.link.failures ≤ Config.isolationFailures → l.failures ≤ Config.isolationFailures)
    (hframe : ∀ f, l.transmission = .frame f → s.link.transmission = .frame f ∨ B) :
    Moves F B s { s with link := l } :=
  (Basic.link l hu (fun hs => ⟨hr hs.1, hf hs.2.1, hs.2.2⟩) hframe).moves

theorem setAnchor_moves (f : Frame) (s : State) : Moves F B s (setAnchor f s) := by
  unfold setAnchor
  split
  · exact link_moves rfl id id fun _ => .inl
  · exact link_moves rfl id id fun _ => .inl
  all_goals exact .refl

/-- An admitted frame taken by the block its kind names (R131). `F` holds of the groups that a RELEASE frame names. -/
theorem dispatchFrame_moves {own : Bool} (hactive : s.active = true) (hsender : own = false → f.sender ≠ s.own)
    (hF : ∀ b g, f.payload = .trip b 2 → groupOfByte b = some g → F g) : Moves F B s (dispatchFrame f own s) := by
  unfold dispatchFrame
  split
  · exact takePresence_moves hactive hsender
  · exact foldl_moves (fun t r => takePointRecord_moves f.sender t r) _ hactive
  · exact foldl_moves (fun t r => takeClaimRecord_moves f.sender t r) _ hactive
  · exact foldl_moves (fun t r => takeYieldRecord_moves f.sender t r) _ hactive
  · exact foldl_moves (fun t b _ => takeReclaimPoint_moves f.sender t b) _ hactive
  next b k hpayload => exact takeTrip_moves f.sender own fun hk g hg => hF b g (hk ▸ hpayload) hg

theorem takeFrame_moves {own : Bool} (hactive : s.active = true)
    (hF : ∀ b g, f.payload = .trip b 2 → groupOfByte b = some g → F g) : Moves F B s (takeFrame f own s) := by
  unfold takeFrame
  extract_lets s1
  have h1 : Moves F B s s1 := setAnchor_moves f s
  split
  · exact h1.trans (raise_moves _ _)
  next hsender =>
    split
    next hadmitted =>
      have h2 : Moves F B s (noteHeard f own s1) := h1.trans (noteHeard_moves hadmitted)
      refine h2.trans (dispatchFrame_moves (Moves.active h2 hactive) (fun hown => ?_) hF)
      rw [State.own_congr (Moves.stays h2).control]
      simpa [hown] using hsender
    next => exact h1

theorem rejectFrame_moves (s : State) : Moves F B s (rejectFrame s) :=
  link_moves rfl (fun _ => min_le_right _ _) id fun _ => .inl

theorem resetAnchors_moves (s : State) : Moves F B s (resetAnchors s) := link_moves rfl id id fun _ => .inl

theorem endOwnEpisode_moves (s : State) : Moves F B s (endOwnEpisode s) := link_moves rfl id id fun _ => .inl

theorem endIgnoring_moves (s : State) : Moves F B s (endIgnoring s) := link_moves rfl id id fun _ => .inl

theorem endHeardFrame_moves (s : State) : Moves F B s (endHeardFrame s) := by
  unfold endHeardFrame
  split
  · exact link_moves rfl id id (by simp)
  all_goals exact .refl

/-- The groups that the bytes of a RELEASE frame name (R102). -/
def ReleaseNames (bs : List Byte) (g : Group) : Prop :=
  ∃ f b, parseFrame bs = some f ∧ f.payload = .trip b 2 ∧ groupOfByte b = some g

theorem takeBytes_moves {own : Bool} (hactive : s.active = true) (hF : ∀ g, ReleaseNames bs g → F g) :
    Moves F B s (takeBytes bs own s) := by
  unfold takeBytes
  split
  next f hf => exact takeFrame_moves hactive fun b g hpayload hg => hF g ⟨f, b, hf, hpayload, hg⟩
  next => exact rejectFrame_moves s

theorem receiveFrame_moves (hF : ∀ g, ReleaseNames bs g → F g) (s : State) : Moves F B s (receiveFrame bs s) := by
  unfold receiveFrame
  split
  · exact .refl
  next hactive =>
    have hactive : s.active = true := by simpa [State.receiving] using hactive
    split
    · exact endIgnoring_moves s
    · split
      · exact (endOwnEpisode_moves s).trans (takeBytes_moves hactive hF)
      · split
        · have h1 : Moves F B s (endHeardFrame s) := endHeardFrame_moves s
          exact h1.trans (takeBytes_moves (Moves.active h1 hactive) hF)
        · exact .refl

theorem receiveOther_moves {effect : State → State} (heffect : ∀ s, Moves F B s (effect s)) (s : State) :
    Moves F B s (receiveOther effect s) := by
  unfold receiveOther
  split
  · exact .refl
  · split
    · exact endIgnoring_moves s
    · split
      · exact .refl
      · split
        · exact endOwnEpisode_moves s
        · exact ((endOwnEpisode_moves s).trans (rejectFrame_moves _)).trans (heffect _)

/-! ### Access and sending (8.3 to 8.5) -/

theorem withDeferral_moves (d : Option Deferral) (s : State) : Moves F B s (s.withDeferral d) :=
  link_moves rfl id id fun _ => .inl

theorem idleEvent_moves (s : State) : Moves F B s (idleEvent s) := by
  unfold idleEvent
  split
  · exact ((endOwnEpisode_moves s).trans (endIgnoring_moves _)).trans (withDeferral_moves _ _)
  · exact .refl

theorem assembleClaim_moves (s : State) : Moves F B s (assembleClaim s).1 := by
  dsimp only [assembleClaim]
  exact assemble_moves claimPoint_moves s

theorem assembleReclaim_moves (s : State) : Moves F B s (assembleReclaim s).1 := by
  dsimp only [assembleReclaim]
  exact assemble_moves reclaimPoint_moves s

theorem assembleYield_moves (s : State) : Moves F B s (assembleYield s).1 := by
  dsimp only [assembleYield]
  exact assemble_moves yieldPoint_moves s

theorem assembleRequest_moves (r : Request) (s : State) : Moves F B s (assembleRequest r s).1 := by
  unfold assembleRequest
  split
  · exact assembleClaim_moves s
  · exact assembleReclaim_moves s
  · exact assembleYield_moves s
  · exact .refl
  · extract_lets d r
    split
    · exact .refl
    · split
      · exact raise_moves _ s
      · split
        · exact raise_moves _ s
        · exact .refl

theorem sendOrWithdraw_moves {withdraw : State → State} {x : State × Option Payload} (hB : B)
    (h : Moves F B s x.1) (hw : ∀ t, Moves F B t (withdraw t)) : Moves F B s (sendOrWithdraw withdraw x) := by
  unfold sendOrWithdraw
  split
  · exact h.trans (link_moves rfl id id fun _ _ => .inr hB)
  · exact h.trans (hw _)

theorem winClass_moves (c : LinkClass) (hB : B) (s : State) : Moves F B s (winClass c s) := by
  unfold winClass
  split
  · split
    · exact .refl
    · exact sendOrWithdraw_moves hB (assembleRequest_moves _ s) fun t =>
        (dequeue_basic _ t).moves.trans (departure_moves _)
  · exact sendOrWithdraw_moves hB (assemblePoint_moves s) fun _ => .refl
  · exact sendOrWithdraw_moves hB (filterNotices_moves _ s) fun _ => .refl

/-- A frame begins in RUN alone (R139). -/
theorem winSlot_moves (hB : s.control.state = .run → B) : Moves F B s (winSlot s) := by
  unfold winSlot
  split
  next h =>
    simp only [Bool.and_eq_true, beq_iff_eq] at h
    split
    · exact (withDeferral_moves _ s).trans (winClass_moves _ (hB h.1.2) _)
    · exact .refl
  next => exact .refl

theorem foldl_point_moves {α : Type} {f : State → α → State} (h : ∀ s a, Moves F B s (f s a)) (l : List α) (s : State) :
    Moves F B s (l.foldl f s) := foldl_rel (fun _ => .refl) .trans h l s

theorem completeOwner_moves (p : Payload) (s : State) : Moves F B s (completeOwner p s) := by
  unfold completeOwner
  split
  · exact foldl_point_moves claimCompleted_moves _ s
  · exact foldl_point_moves reclaimCompleted_moves _ s
  · exact foldl_point_moves yieldCompleted_moves _ s
  · exact foldl_point_moves publishedPoint_moves _ s
  · exact completePresence_moves _ s
  · exact .refl

theorem completeRequest_moves (p : Payload) (s : State) : Moves F B s (completeRequest p s) := by
  unfold completeRequest
  split
  · exact (dequeue_basic _ s).moves.trans (departure_moves _)
  · exact .refl

theorem reportCompletion_moves {l : Link} (hu : l.urgent = s.link.urgent) (hr : l.rejected = s.link.rejected)
    (hframe : ∀ f, l.transmission = .frame f → s.link.transmission = .frame f ∨ B) :
    Moves F B s (reportCompletion f l s) :=
  ((link_moves (l := { l with failures := 0 }) hu (fun h => hr ▸ h) (fun _ => Nat.zero_le _) hframe).trans
    (completeOwner_moves _ _)).trans (completeRequest_moves _ _)

theorem completeFrame_moves (s : State) : Moves F B s (completeFrame s) := by
  unfold completeFrame
  split
  · exact reportCompletion_moves rfl rfl (by simp)
  next hidle =>
    split
    · exact reportCompletion_moves rfl rfl (by simp [hidle])
    · exact .refl
  · exact .refl
  · exact .refl

theorem collideOwner_moves (p : Payload) (s : State) : Moves F B s (collideOwner p s) := by
  unfold collideOwner
  split
  · exact foldl_point_moves collidedPoint_moves _ s
  all_goals exact .refl

theorem collideFrame_moves (s : State) : Moves F B s (collideFrame s) := by
  unfold collideFrame
  split
  · refine ReflTransGen.trans (ReflTransGen.trans (link_moves (l := { s.link with
      transmission := .jam, failures := min (s.link.failures + 1) Config.isolationFailures }) rfl id
      (fun _ => min_le_right _ _) (by simp)) (resetAnchors_moves _)) (collideOwner_moves _ _)
  all_goals exact .refl

theorem releaseLine_moves (s : State) : Moves F B s (releaseLine s) := link_moves rfl id id (by simp)

theorem markJammed_moves (s : State) : Moves F B s (markJammed s) := link_moves rfl id id fun _ => .inl

/-! ### Samples (R24 to R27, R39, R40) -/

theorem takeSample_moves {i : Input} {p : Point} {w : SampleWord} (ha : s.active = true)
    (hi : (s.contexts.get i).point = some p) : Moves F B s (takeSample i p w s) := by
  unfold takeSample
  extract_lets c0 c s1 s2
  have h1 : Moves F B s s1 := evaluateSample_moves hi
  have h2 : Moves F B s s2 := by
    by_cases hc : c.role = .acting
    · have hget : s1.contexts.get i = c := by simp [s1]
      have hpoint : (s1.contexts.get i).point = some p := by
        rw [hget, (evaluateSample_point_role _ _ _).1]; exact hi
      have hwrite : Moves F B s1 (writeFromContext p c s1) := hget ▸ writeFromContext_moves (Moves.active h1 ha) hpoint
      rw [show s2 = _ from if_pos hc]
      exact h1.trans hwrite
    · rw [show s2 = s1 from if_neg hc]
      exact h1
  split
  · exact h2.trans (reexamine_moves i s2)
  · exact h2

theorem sampleEnds_moves (bits : List Bool) (s : State) : Moves F B s (sampleEnds bits s) := by
  unfold sampleEnds
  split
  · exact .refl
  next hrst =>
    split
    · exact (Basic.sample _).moves
    · split
      next hrun =>
        have ha : s.active = true := by simp [State.active, hrst, hrun]
        unfold judgeSample routeSample
        split
        · exact .refl
        · split
          · exact raise_moves _ s
          · split
            · exact raise_moves _ s
            · split
              · exact raise_moves _ s
              next hp => exact takeSample_moves ha hp
      next => exact .refl

/-! ### The management port (10.3, 10.4) -/

theorem answer_moves (bytes : List Byte) (s : State) : Moves F B s (s.answer bytes) := (Basic.port _).moves

/-- A command of the runtime alone, whose effect is a chain of moves (R168). -/
theorem inRuntime_moves {α : Type} {arg : Option α} {f : α → State → State} (h : ∀ a, Moves F B s (f a s)) :
    Moves F B s (inRuntime arg f s) := by
  unfold inRuntime
  split
  · split
    · exact h _
    · exact answer_moves _ s
  · exact answer_moves _ s

theorem readStatus_moves (s : State) : Moves F B s (readStatus s) :=
  ReflTransGen.trans (link_moves (l := { s.link with rejected := 0 }) rfl (fun _ => Nat.zero_le _) id fun _ => .inl)
    (answer_moves _ _)

theorem popEvent_moves (s : State) : Moves F B s (popEvent s) := by
  unfold popEvent
  split
  next r rest hr =>
    refine Relation.ReflTransGen.trans (Basic.events (s := s) { s.events with records := rest, overflow := false, attn := !rest.isEmpty }
      (fun hs => ?_) rfl).moves (answer_moves _ _)
    obtain ⟨hlen, -, -⟩ := hs
    rw [hr] at hlen
    exact ⟨(Nat.le_succ _).trans hlen, rfl, by simp⟩
  next hr =>
    exact Relation.ReflTransGen.trans (Basic.events (s := s) { s.events with overflow := false }
      (fun hs => ⟨hs.1, hs.2.1, by simp⟩) rfl).moves (answer_moves _ _)

theorem clearLatchCommand_moves (b : Byte) (s : State) : Moves F B s (clearLatchCommand b s) := by
  refine inRuntime_moves fun p => ?_
  split
  next huse => exact (clearLatch_moves huse).trans (answer_moves _ _)
  next => exact answer_moves _ s

theorem releaseCommand_moves (b : Byte) (s : State) : Moves F B s (releaseCommand b s) := by
  unfold releaseCommand
  split
  · split
    · unfold releaseGroup
      extract_lets d r
      split
      · exact answer_moves _ s
      · split
        · exact answer_moves _ s
        · split
          · exact answer_moves _ s
          · split
            next hq => exact (offerTo_basic hq).moves.trans (answer_moves _ _)
            next => exact answer_moves _ s
    · exact answer_moves _ s
  · exact answer_moves _ s

theorem reclaimCommand_moves (s : State) : Moves F B s (reclaimCommand s) := by
  unfold reclaimCommand
  split
  · exact ((stopHoldoffs_moves s).trans (reexamineWhere_moves _ _)).trans (answer_moves _ _)
  · exact answer_moves _ s

end Sys2Proof.Machine

end

/-! The commands that change the station state, the local time base and the resets, and what a command can do altogether. -/

section

namespace Sys2Proof.Machine

open Sys2Proof.Safety Relation

variable {F : Group → Prop} {B I : Prop} {s t u : State} {c : StationController}

/-! ### The station state changed (R145 to R149, R156, R157) -/

/-- The control block replaced without a reset or a runtime initialization: RSTn may be released, the station moves between
states that are both of the runtime or both outside it, and the image changes in CONFIG alone, where `I` holds. -/
structure ControlMove (I : Prop) (s : State) (c : StationController) : Prop where
  rst : c.rstAsserted = true → s.control.rstAsserted = true
  held : ResetLaw s → ResetLaw { s with control := c }
  runtime : c.state.runtime = s.control.state.runtime
  image : c.image = s.control.image ∨ I ∧ s.control.state = .config ∧ (ImageLaw s → Memory.wf c.image = true)

/-- In a runtime the image is kept. -/
theorem ControlMove.sameImage (h : ControlMove I s c) (hrun : c.state.runtime = true) : c.image = s.control.image := by
  refine h.image.resolve_right fun ⟨_, hconfig, _⟩ => ?_
  rw [h.runtime, hconfig] at hrun
  cases hrun

theorem ControlMove.active (h : ControlMove I s c) (ha : s.active = true) : State.active { s with control := c } = true := by
  simp only [State.active, Bool.and_eq_true, Bool.not_eq_true'] at ha ⊢
  refine ⟨?_, h.runtime.trans ha.2⟩
  by_contra hrst
  simp [h.rst (by simpa using hrst)] at ha

theorem ControlMove.own (h : ControlMove I s c) (hrun : c.state.runtime = true) : ownStation c.image = s.own := by
  rw [h.sameImage hrun]; rfl

/-- One step of a command that resets nothing: a move of the device, or the control block replaced. -/
inductive RunStep (F : Group → Prop) (B I : Prop) (s : State) : State → Prop
  | move {t : State} (h : Move F B s t) : RunStep F B I s t
  | control (c : StationController) (h : ControlMove I s c) : RunStep F B I s { s with control := c }

/-- A chain of such steps. -/
abbrev Runs (F : Group → Prop) (B I : Prop) : State → State → Prop := ReflTransGen (RunStep F B I)

theorem Moves.runs (h : Moves F B s t) : Runs F B I s t := h.lift id fun _ _ => .move

theorem ControlMove.runs (h : ControlMove I s c) : Runs F B I s { s with control := c } := .single (.control c h)

/-! ### The laws under a change of the station state -/

theorem ControlMove.lineLaw (h : ControlMove I s c) (hs : LineLaw s) : LineLaw { s with control := c } := by
  obtain ⟨hreset, hlines⟩ := hs
  refine ⟨h.held hreset, hlines.trans ?_⟩
  by_cases ha : s.active = true
  · have himage := h.sameImage (by have := h.active ha; simp only [State.active, Bool.and_eq_true] at this; exact this.2)
    simp only [State.lineLevels, ha, h.active ha, if_true, himage]
  · have ha' : State.active { s with control := c } = false := by
      by_contra hact
      simp only [State.active, Bool.not_eq_false, Bool.and_eq_true, Bool.not_eq_true'] at hact ha
      have hrst : s.control.rstAsserted = true := by
        by_contra hno
        exact ha ⟨by simpa using hno, h.runtime ▸ hact.2⟩
      rw [h.runtime, hreset hrst] at hact
      cases hact.2
    simp only [State.lineLevels, ha', ha, Bool.false_eq_true, if_false]

theorem ControlMove.publishLaw (h : ControlMove I s c) (hs : PublishLaw s) : PublishLaw { s with control := c } := by
  have hacts : ∀ p, Acts s p → Acts { s with control := c } p := fun p ⟨ha, ho⟩ => by
    have ha' := h.active ha
    refine ⟨ha', ?_⟩
    simp only [State.active, Bool.and_eq_true] at ha'
    rw [State.own, h.own ha'.2]
    exact ho
  exact ⟨hs.1, fun p hp => hacts p (hs.2.1 p hp), fun p hp => hacts p (hs.2.2 p hp)⟩

theorem ControlMove.rosterLaw (h : ControlMove I s c) (hs : RosterLaw s) : RosterLaw { s with control := c } := by
  refine ⟨h.held hs.1, fun a => ?_⟩
  obtain ⟨hsilence, hself, hdigest⟩ := hs.2 a
  refine ⟨hsilence, hself.trans ?_, hdigest⟩
  show s.control.state.runtime = true ∧ a = s.own ↔ c.state.runtime = true ∧ a = ownStation c.image
  rw [← h.runtime]
  exact and_congr_right fun hrun => by rw [h.own hrun]

theorem ControlMove.imageLaw (h : ControlMove I s c) (hs : ImageLaw s) : ImageLaw { s with control := c } := by
  rcases h.image with himage | ⟨-, -, himage⟩
  · show Memory.wf c.image = true
    rw [himage]; exact hs
  · exact himage hs

theorem ControlMove.timeLaw (h : ControlMove I s c) (hs : TimeLaw s) : TimeLaw { s with control := c } := fun hrun =>
  hs (h.runtime ▸ hrun)

/-- A condition of the runtime that is read from the image and the other blocks is kept. -/
theorem ControlMove.runtimeLaw {L : State → Prop} (h : ControlMove I s c)
    (hL : ∀ {s t : State}, t.control.image = s.control.image → t = { s with control := t.control } → L s → L t)
    (hs : s.control.state.runtime = true → L s) (hrun : c.state.runtime = true) : L { s with control := c } :=
  hL (h.sameImage hrun) rfl (hs (h.runtime ▸ hrun))

theorem ControlMove.voteLaw (h : ControlMove I s c) (hs : VoteLaw s) : VoteLaw { s with control := c } :=
  ⟨h.held hs.1, fun hrun => by
    refine h.runtimeLaw (L := fun u => ∀ g, CountedAt u g) (fun {s t} himage ht hs g => ?_) hs.2 hrun
    have hg := hs g
    unfold CountedAt at hg ⊢
    rw [State.groupDesc, himage, ht]
    exact hg⟩

theorem ControlMove.standingLaw (h : ControlMove I s c) (hs : StandingLaw s) : StandingLaw { s with control := c } :=
  ⟨h.held hs.1, fun hrun => by
    refine h.runtimeLaw (L := fun u => ∀ g, StandsAt u g) (fun {s t} himage ht hs g => ?_) hs.2 hrun
    have hg := hs g
    unfold StandsAt at hg ⊢
    rw [State.groupDesc, himage, ht]
    exact hg⟩

/-- The image that a runtime reads is the one it read. -/
theorem ControlMove.image_eq (h : ControlMove I s c) (hrun : s.control.state.runtime = true) :
    c.image = s.control.image := h.sameImage (h.runtime ▸ hrun)

theorem ControlMove.desc_eq (h : ControlMove I s c) (hrun : s.control.state.runtime = true) (p : Point) :
    State.desc { s with control := c } p = s.desc p := by simp only [State.desc, h.image_eq hrun]

theorem ControlMove.ownerLaw (h : ControlMove I s c) (hs : OwnerLaw s) : OwnerLaw { s with control := c } := by
  refine ⟨h.held hs.1, fun hrun => ?_⟩
  have hrun : s.control.state.runtime = true := h.runtime ▸ hrun
  obtain ⟨hentry, hbound⟩ := hs.2 hrun
  refine ⟨fun p => ?_, hbound⟩
  rw [h.desc_eq hrun]
  exact hentry p

theorem ControlMove.contextLaw (h : ControlMove I s c) (hs : ContextLaw s) : ContextLaw { s with control := c } := by
  refine ⟨⟨h.held hs.1.1, fun hrun => ?_⟩, fun hrun i p hp => ?_⟩
  · rw [h.sameImage hrun]
    exact hs.1.2 (h.runtime ▸ hrun)
  · have hrun : s.control.state.runtime = true := h.runtime ▸ hrun
    rw [h.desc_eq hrun]
    exact hs.2 hrun i p hp

theorem ControlMove.contentLaw (h : ControlMove I s c) (hs : ContentLaw s) : ContentLaw { s with control := c } := by
  refine ⟨h.contextLaw hs.1, fun hrun p hp => ?_⟩
  have hrun : s.control.state.runtime = true := h.runtime ▸ hrun
  rw [h.desc_eq hrun]
  exact hs.2 hrun p hp

theorem ControlMove.roleLaw (h : ControlMove I s c) (hs : RoleLaw s) : RoleLaw { s with control := c } := by
  refine ⟨h.held hs.1, fun i => ⟨fun hrun => ?_, fun hrun => (hs.2 i).2 (h.runtime ▸ hrun)⟩⟩
  refine ((hs.2 i).1 (h.runtime ▸ hrun)).trans ?_
  have hown : State.own { s with control := c } = s.own := h.own hrun
  show roleFor s (s.contexts.get i).point = roleFor { s with control := c } (s.contexts.get i).point
  unfold roleFor
  rw [hown]

theorem ControlMove.custodyLaw (h : ControlMove I s c) (hs : CustodyLaw s) : CustodyLaw { s with control := c } := by
  refine ⟨h.held hs.1, fun i => ?_⟩
  obtain ⟨hpoint, hnone, hfits⟩ := hs.2 i
  refine ⟨fun hrun => hpoint (h.runtime ▸ hrun), fun hrun => hnone (h.runtime ▸ hrun), fun x hx => ?_⟩
  cases hrun : s.control.state.runtime with
  | false => exact absurd (hx.symm.trans (hnone hrun).1) (by simp)
  | true =>
    have hown : State.own { s with control := c } = s.own := h.own (h.runtime.trans hrun)
    rw [h.desc_eq hrun, hown]
    exact hfits x hx

/-! ### The local time base (R160) -/

@[simp] theorem CustodyEntry.tick_point (c : CustodyEntry) : c.tick.point = c.point := rfl
@[simp] theorem CustodyEntry.tick_role (c : CustodyEntry) : c.tick.role = c.role := rfl

theorem tick_of_inactive (h : s.active = false) : tick s = s := by simp [tick, h]

/-- What one millisecond does at an active station, block by block. -/
theorem tick_of_active (h : s.active = true) : tick s = { s with
    control := { s.control with listen := s.control.listen.tick, isolation := s.control.isolation.tick }
    mirror := s.mirror.map MirrorEntry.tick
    voter := { s.voter with groups := s.voter.groups.map (fun r => { r with confirm := r.confirm.tick }) }
    custody := { s.custody with table := s.custody.table.map (fun o => o.map CustodyEntry.tick) }
    publisher := { s.publisher with records := s.publisher.records.map (fun r => { r with refresh := r.refresh.tick }) }
    roster := { s.roster with
      entries := s.roster.entries.map (fun r => { r with silence := r.silence.tick })
      presenceTimer := s.roster.presenceTimer.tick }
    events := { s.events with time := s.events.time + 1 } } := by
  simp [tick, h]

/-- One millisecond keeps what it keeps at an active station. -/
theorem tick_keeps {L : State → Prop} (h : s.active = true → L s → L (tick s)) (hs : L s) : L (tick s) := by
  cases ha : s.active with
  | false => rw [tick_of_inactive ha]; exact hs
  | true => exact h ha hs

@[simp] theorem tick_custodyFits (c : CustodyEntry) : custodyFits c.tick = custodyFits c := by
  have hholdoff : ∀ h : Holdoff, (h.tick == .stopped) = (h == .stopped) := fun h => by cases h <;> rfl
  have htimer : ∀ h : Timer, (h.tick == .stopped) = (h == .stopped) := fun h => by cases h <;> rfl
  simp only [custodyFits, CustodyEntry.tick, hholdoff, htimer]

theorem tick_lineLaw (hs : LineLaw s) : LineLaw (tick s) :=
  tick_keeps (fun ha hs => by
    obtain ⟨hreset, hlines⟩ := hs
    rw [tick_of_active ha]
    refine ⟨hreset, hlines.trans ?_⟩
    simp only [State.lineLevels, State.active]
    exact ite_congr rfl (fun _ => groupLines_congr _ fun g => by rw [Table.get_map]) fun _ => rfl) hs

theorem tick_groupLaw (hs : GroupLaw s) : GroupLaw (tick s) :=
  tick_keeps (fun ha hs g => by simpa [tick_of_active ha] using hs g) hs

theorem tick_countedAt (ha : s.active = true) {g : Group} (hs : CountedAt s g) : CountedAt (tick s) g := by
  rw [tick_of_active ha]
  have hvotes : votes (s.groupDesc g) (s.mirror.map MirrorEntry.tick) = votes (s.groupDesc g) s.mirror :=
    votes_congr fun q _ => by simp [MirrorEntry.tick]
  unfold CountedAt at hs ⊢
  dsimp only [State.groupDesc] at hs hvotes ⊢
  rw [hvotes, Table.get_map]
  exact ⟨hs.1, fun hunused => by rw [hs.2 hunused]; rfl⟩

theorem tick_voteLaw (hs : VoteLaw s) : VoteLaw (tick s) :=
  tick_keeps (fun ha hs => by
    refine ⟨by simpa [ResetLaw, tick_of_active ha] using hs.1, fun hrun g => tick_countedAt ha (hs.2 ?_ g)⟩
    simpa [tick_of_active ha] using hrun) hs

theorem tick_standingLaw (hs : StandingLaw s) : StandingLaw (tick s) :=
  tick_keeps (fun ha hs => by
    rw [tick_of_active ha]
    refine ⟨hs.1, fun hrun g hused => ?_⟩
    have hg := hs.2 hrun g hused
    dsimp only [State.groupDesc] at hg ⊢
    rw [Table.get_map]
    exact hg) hs

theorem tick_ownerLaw (hs : OwnerLaw s) : OwnerLaw (tick s) :=
  tick_keeps (fun ha hs => by
    rw [tick_of_active ha]
    refine ⟨hs.1, fun hrun => ?_⟩
    obtain ⟨hentry, hbound⟩ := hs.2 hrun
    refine ⟨fun p => ?_, fun i p hp => ?_⟩
    · obtain ⟨huse, howner, hunused⟩ := hentry p
      rw [Table.get_map]
      refine ⟨huse, howner, fun h => ?_⟩
      rw [hunused h]
      rfl
    · rw [Table.get_map]
      exact hbound i p hp) hs

theorem tick_roleLaw (hs : RoleLaw s) : RoleLaw (tick s) :=
  tick_keeps (fun ha hs => by
    rw [tick_of_active ha]
    refine ⟨hs.1, fun i => ⟨fun hrun => ((hs.2 i).1 hrun).trans ?_, (hs.2 i).2⟩⟩
    dsimp only
    generalize (s.contexts.get i).point = x
    cases x with
    | none => rfl
    | some p =>
      simp only [roleFor, State.own, Table.get_map]
      rfl) hs

theorem tick_custodyLaw (hs : CustodyLaw s) : CustodyLaw (tick s) :=
  tick_keeps (fun ha hs => by
    rw [tick_of_active ha]
    refine ⟨hs.1, fun i => ?_⟩
    obtain ⟨hpoint, hnone, hfits⟩ := hs.2 i
    dsimp only
    rw [Table.get_map]
    cases hi : s.custody.table.get i with
    | none =>
      rw [hi] at hpoint
      exact ⟨hpoint, fun h => ⟨rfl, (hnone h).2⟩, fun x hx => by simp at hx⟩
    | some c =>
      rw [hi] at hpoint hnone
      refine ⟨hpoint, fun h => absurd (hnone h).1 (by simp), fun x hx => ?_⟩
      obtain rfl : c.tick = x := by simpa using hx
      rw [tick_custodyFits]
      exact hfits c hi) hs

theorem tick_contextLaw (hs : ContextLaw s) : ContextLaw (tick s) :=
  tick_keeps (fun ha hs => by rw [tick_of_active ha]; exact hs) hs

theorem tick_contentLaw (hs : ContentLaw s) : ContentLaw (tick s) :=
  tick_keeps (fun ha hs => by
    refine ⟨tick_contextLaw hs.1, ?_⟩
    rw [tick_of_active ha]
    intro hrun p hp
    rw [Table.get_map] at hp ⊢
    exact hs.2 hrun p hp) hs

theorem tick_publishLaw (hs : PublishLaw s) : PublishLaw (tick s) :=
  tick_keeps (fun ha hs => by
    have hacts : ∀ p, Acts s p → Acts (tick s) p := fun p hp => by
      rw [tick_of_active ha]
      refine ⟨hp.1, ?_⟩
      show ((s.mirror.map MirrorEntry.tick).get p).owner = _
      rw [Table.get_map]
      exact hp.2
    rw [tick_of_active ha] at hacts ⊢
    refine ⟨hs.1, fun p hp => hacts p (hs.2.1 p hp), fun p hp => hacts p (hs.2.2 p ?_)⟩
    simpa using hp) hs

theorem tick_rosterLaw (hs : RosterLaw s) : RosterLaw (tick s) :=
  tick_keeps (fun ha hs => by
    rw [tick_of_active ha]
    refine ⟨hs.1, fun a => ?_⟩
    simpa [State.own] using hs.2 a) hs

theorem tick_countLaw (hs : CountLaw s) : CountLaw (tick s) :=
  tick_keeps (fun ha hs => by
    rw [tick_of_active ha]
    refine ⟨hs.1, hs.2.1, fun p => ?_⟩
    rw [Table.get_map]
    exact min_le_right _ _) hs

theorem tick_eventLaw (hs : EventLaw s) : EventLaw (tick s) :=
  tick_keeps (fun ha hs => by rw [tick_of_active ha]; exact hs) hs

theorem tick_urgentLaw (hs : UrgentLaw s) : UrgentLaw (tick s) :=
  tick_keeps (fun ha hs => by rw [tick_of_active ha]; exact hs) hs

theorem tick_noticeLaw (hs : NoticeLaw s) : NoticeLaw (tick s) :=
  tick_keeps (fun ha hs => by rw [tick_of_active ha]; exact hs) hs

theorem tick_imageLaw (hs : ImageLaw s) : ImageLaw (tick s) :=
  tick_keeps (fun ha hs => by rw [tick_of_active ha]; exact hs) hs

theorem tick_timeLaw (hs : TimeLaw s) : TimeLaw (tick s) :=
  tick_keeps (fun ha _ hrun => by
    have hactive := ha
    simp only [State.active, Bool.and_eq_true] at hactive
    rw [tick_of_active ha] at hrun
    exact absurd hactive.2 (by simpa using hrun)) hs

end Sys2Proof.Machine

end

section

namespace Sys2Proof.Machine

open Sys2Proof.Safety Relation

variable {F : Group → Prop} {B I K : Prop} {s t u : State} {m : List Host.Cell}

/-! ### The states that the resets leave (R146, R158) -/

/-- The power-up form of every block but the control block, the sample interface, the line and the port. -/
def blank (c : StationController) (x : SampleInterface) (tr : Transmission) (lt : Bool) (port : Port) (q : List Instr) :
    State :=
  { State.reset with
    control := c, sample := x, link := { Link.configForm with transmission := tr, ltxen := lt }, port := port, pending := q }

/-- `t` is such a state in CONFIG, with the image of `s`, or without one where `K` holds, and without a frame on the line. -/
inductive Blank (K : Prop) (s : State) : State → Prop
  | mk (c : StationController) (x : SampleInterface) (tr : Transmission) (lt : Bool) (port : Port)
      (config : c.state = .config) (image : c.image = s.control.image ∨ K ∧ c.image = [])
      (noFrame : ∀ f, tr ≠ .frame f) : Blank K s (blank c x tr lt port s.pending)

theorem Blank.config (h : Blank K s t) : t.control.state = .config := by
  cases h with
  | mk c x tr lt port config image noFrame => exact config

theorem Blank.pending (h : Blank K s t) : t.pending = s.pending := by
  cases h; rfl

theorem Blank.image (h : Blank K s t) : t.control.image = s.control.image ∨ K ∧ t.control.image = [] := by
  cases h with
  | mk c x tr lt port config image noFrame => exact image

theorem Blank.resetLaw (h : Blank K s t) : ResetLaw t := fun _ => h.config

theorem Blank.not_runtime (h : Blank K s t) : t.control.state.runtime = false := by rw [h.config]; rfl

theorem Blank.imageLaw (h : Blank K s t) (hs : ImageLaw s) : ImageLaw t := by
  unfold ImageLaw
  rcases h.image with himage | ⟨-, himage⟩
  · rw [himage]; exact hs
  · rw [himage]; rfl

theorem Blank.urgentLaw (h : Blank K s t) : UrgentLaw t := by
  cases h; exact ⟨List.nodup_nil, Nat.zero_le _⟩

theorem Blank.eventLaw (h : Blank K s t) : EventLaw t := by
  cases h; exact ⟨Nat.zero_le _, rfl, by simp [blank, State.reset, EventQueue.configForm]⟩

theorem Blank.timeLaw (h : Blank K s t) : TimeLaw t := by
  cases h; exact fun _ => rfl

theorem Blank.noticeLaw (h : Blank K s t) : NoticeLaw t := by
  cases h; exact ⟨List.nodup_nil, Nat.zero_le _⟩

theorem Blank.countLaw (h : Blank K s t) : CountLaw t := by
  cases h
  exact ⟨Nat.zero_le _, Nat.zero_le _, fun p => by simp [blank, State.reset, MirrorEntry.configForm]⟩

theorem Blank.publishLaw (h : Blank K s t) : PublishLaw t := by
  cases h
  refine ⟨List.nodup_nil, by simp [blank, State.reset, Publisher.resetForm], fun p hp => ?_⟩
  simp [blank, State.reset, Publisher.resetForm, PubRecord.resetForm] at hp

theorem Blank.lineLaw (h : Blank K s t) : LineLaw t := by
  refine ⟨h.resetLaw, ?_⟩
  rw [State.lineLevels, State.active, h.not_runtime, Bool.and_false]
  cases h; rfl

theorem configForm_fits : GroupRecord.configForm.Fits := by simp [GroupRecord.Fits, GroupRecord.configForm]

theorem Blank.groupLaw (h : Blank K s t) : GroupLaw t := by
  cases h
  intro g
  rw [show (blank _ _ _ _ _ _).voter.groups = Table.fill GroupRecord.configForm from rfl, Table.get_fill]
  exact configForm_fits

theorem Blank.roleLaw (h : Blank K s t) : RoleLaw t := by
  refine ⟨h.resetLaw, fun i => ⟨fun hrun => absurd hrun (by simp [h.not_runtime]), fun _ => ?_⟩⟩
  cases h
  simp [blank, State.reset, Context.configForm]

theorem Blank.custodyLaw (h : Blank K s t) : CustodyLaw t := by
  refine ⟨h.resetLaw, fun i => ⟨fun hrun => absurd hrun (by simp [h.not_runtime]), fun _ => ?_, fun c hc => ?_⟩⟩
  · cases h
    simp [blank, State.reset, Custody.configForm, Context.configForm]
  · cases h
    simp [blank, State.reset, Custody.configForm] at hc

theorem Blank.rosterLaw (h : Blank K s t) : RosterLaw t := by
  refine ⟨h.resetLaw, fun a => ?_⟩
  rw [h.not_runtime]
  cases h
  simp [blank, State.reset, Roster.configForm, RosterEntry.configForm]

/-- The laws of the runtime hold outside it. -/
theorem Blank.runtimeLaws (h : Blank K s t) : VoteLaw t ∧ StandingLaw t ∧ OwnerLaw t ∧ ContextLaw t ∧ ContentLaw t := by
  have hno : ∀ {P : Prop}, t.control.state.runtime = true → P := fun hrun => absurd hrun (by simp [h.not_runtime])
  exact ⟨⟨h.resetLaw, hno⟩, ⟨h.resetLaw, hno⟩, ⟨h.resetLaw, hno⟩, ⟨⟨h.resetLaw, hno⟩, hno⟩, ⟨⟨⟨h.resetLaw, hno⟩, hno⟩, hno⟩⟩

/-! ### What validation passed (R149 to R153) -/

/-- The checks that a passed validation has made. -/
structure Validated (m : List Host.Cell) : Prop where
  points : ∀ p, pointFails m p = false
  groups : ∀ g, groupFails m g = false
  inputs : ∀ i, inputFails m i = false
  bound : ∀ p, pointUnbound m p = false

theorem find?_finRange_none {n : Nat} {f : Fin n → Bool} (h : (List.finRange n).find? f = none) (i : Fin n) : f i = false := by
  simpa using List.find?_eq_none.mp h i (List.mem_finRange i)

theorem validated_of_validate (h : validate m = .none) : Validated m := by
  unfold validate at h
  split at h
  · cases h
  · split at h
    · cases h
    · split at h
      · cases h
      · split at h
        · cases h
        next hpoints =>
          split at h
          · cases h
          next hgroups =>
            split at h
            · cases h
            next hinputs =>
              split at h
              · cases h
              next hbound =>
                exact ⟨find?_finRange_none hpoints, find?_finRange_none hgroups, find?_finRange_none hinputs,
                  find?_finRange_none hbound⟩

/-- The home of a point in use is a station (R151). -/
theorem Validated.home (h : Validated m) {p : Point} (hused : (pointDesc m p).used = true) :
    ∃ a, (pointDesc m p).homeStation = some a := by
  have hfit : pointFits (pointDesc m p) = true := by simpa [pointFails, hused] using h.points p
  simp only [pointFits, Bool.and_eq_true, decide_eq_true_eq] at hfit
  have hhome : (pointDesc m p).home.toNat ≤ 15 := by tauto
  exact ⟨_, dif_pos (by omega : (pointDesc m p).home.toNat < 16)⟩

/-- An input of the input map names a point in use that this station serves (R153). -/
theorem Validated.input (h : Validated m) {i : Input} {p : Point} (hi : inputMap m i = some p) :
    (pointDesc m p).used = true ∧ (pointDesc m p).serves (ownStation m) = true := by
  have hbyte : inputByte m i ≠ 0xFF := fun hno => by
    unfold inputMap at hi
    unfold inputByte at hno
    rw [hno] at hi
    cases hi
  have hfail := h.inputs i
  simp only [inputFails, hi, Bool.and_eq_false_iff, bne_eq_false_iff_eq, hbyte, false_or, Bool.or_eq_false_iff,
    Bool.not_eq_false', Bool.and_eq_true] at hfail
  exact hfail.1

/-! ### The runtime initialization (R155) -/

theorem firstEvaluation_voterStep (s : State) : VoterStep s (firstEvaluation s) :=
  (foldl_rel .refl .trans (fun s g => evaluate_voterStep g s) _ s).trans (setLines_voterStep _)

/-- The station starts: validation has passed, and `t` is the state after the runtime initialization. -/
structure Started (s t : State) : Prop where
  rst : s.control.rstAsserted = false
  validating : s.control.state = .validating
  passed : validate s.control.image = .none
  result : ∃ carrier, t = firstEvaluation (initialForm carrier s)

theorem Started.formed (h : Started s t) : ∃ carrier, VoterStep (initialForm carrier s) t := by
  obtain ⟨carrier, rfl⟩ := h.result
  exact ⟨carrier, firstEvaluation_voterStep _⟩

theorem Started.resetLaw (h : Started s t) : ResetLaw t := by
  obtain ⟨carrier, hstep⟩ := h.formed
  intro hrst
  rw [hstep.control] at hrst
  exact absurd (h.rst.symm.trans hrst) (by simp)

theorem Started.keeps {L : State → Prop} (h : Started s t) (hL : ForgetsVoter L)
    (hform : ∀ carrier, L (initialForm carrier s)) : L t := by
  obtain ⟨carrier, hstep⟩ := h.formed
  exact hL.voterStep hstep (hform carrier)

section

variable (hrst : s.control.rstAsserted = false) (hpassed : validate s.control.image = .none) (carrier : Bool)

include hrst in
theorem initialForm_resetLaw : ResetLaw (initialForm carrier s) := fun h => absurd (hrst.symm.trans h) (by simp)

theorem initialForm_runtime (carrier : Bool) (s : State) :
    (initialForm carrier s).control.state.runtime = true := rfl

theorem initialForm_mirror (p : Point) :
    (initialForm carrier s).mirror.get p = initialEntry (pointDesc s.control.image p) := Table.get_ofFn _ _

theorem initialForm_context (i : Input) :
    (initialForm carrier s).contexts.get i = initialContext s.control.image i := Table.get_ofFn _ _

theorem initialForm_custody (i : Input) :
    (initialForm carrier s).custody.table.get i = initialCustody s.control.image i := Table.get_ofFn _ _

theorem initialForm_roster (a : Station) : (initialForm carrier s).roster.entries.get a =
    { RosterEntry.configForm with state := if a = s.own then .self else .absent } := Table.get_ofFn _ _

/-- A context is bound as the input map has it. -/
theorem initialContext_point (m : List Host.Cell) (i : Input) : (initialContext m i).point = inputMap m i := by
  unfold initialContext
  split
  next p hp => exact hp.symm
  next hp => exact hp.symm

theorem initialContext_of_bound {i : Input} {p : Point} (hi : inputMap m i = some p) : initialContext m i =
    { Context.configForm with
      point := some p
      role := if (initialEntry (pointDesc m p)).owner = some (ownStation m) then .acting else .shadow
      hit := if (pointDesc m p).publish = .valueOnly then .none else .clear } := by
  simp only [initialContext, hi]

include hrst hpassed

theorem initialForm_ownerLaw : OwnerLaw (initialForm carrier s) := by
  have hvalid := validated_of_validate hpassed
  refine ⟨initialForm_resetLaw hrst carrier, fun _ => ⟨fun p => ?_, fun i p hp => ?_⟩⟩
  · rw [initialForm_mirror]
    refine ⟨rfl, fun hused => ?_, fun hunused => ?_⟩
    · have hused : (pointDesc s.control.image p).used = true := hused
      obtain ⟨a, ha⟩ := hvalid.home hused
      refine ⟨a, ?_, ?_⟩
      · simp [initialEntry, hused, ha]
      · show (pointDesc s.control.image p).serves a = true
        simp [PointDesc.serves, ha]
    · have hunused : (pointDesc s.control.image p).used = false := hunused
      simp [initialEntry, hunused, unusedEntry, MirrorEntry.configForm]
  · rw [initialForm_context, initialContext_point] at hp
    rw [initialForm_mirror]
    exact (hvalid.input hp).1

theorem initialForm_contextLaw : ContextLaw (initialForm carrier s) := by
  refine ⟨⟨initialForm_resetLaw hrst carrier, fun _ => hpassed⟩, fun _ i p hp => ?_⟩
  rw [initialForm_context] at hp ⊢
  have hi : inputMap s.control.image i = some p := by rw [← initialContext_point]; exact hp
  refine ⟨((validated_of_validate hpassed).input hi).1, ?_, ?_⟩
  · rw [initialContext_of_bound hi]
    show debounceFits (pointDesc s.control.image p) _ = true
    by_cases hmode : (pointDesc s.control.image p).publish = .valueOnly
    · simp [debounceFits, hmode, Context.configForm]
    · simp [debounceFits, hmode, Context.configForm]
  · rw [initialContext_of_bound hi]
    rfl

theorem initialForm_contentLaw : ContentLaw (initialForm carrier s) := by
  refine ⟨initialForm_contextLaw hrst hpassed carrier, fun _ p _ => ?_⟩
  rw [initialForm_mirror]
  cases (State.desc (initialForm carrier s) p).publish <;> rfl

omit hpassed in
theorem initialForm_custodyLaw : CustodyLaw (initialForm carrier s) := by
  refine ⟨initialForm_resetLaw hrst carrier, fun i => ⟨fun _ => ?_, fun hrun => absurd (hrun.symm.trans (initialForm_runtime carrier s)) (by simp), fun c hc => ?_⟩⟩
  · rw [initialForm_custody, initialForm_context, initialContext_point, initialCustody, Option.map_map]
    cases inputMap s.control.image i <;> rfl
  · rw [initialForm_custody, initialCustody, Option.map_eq_some_iff] at hc
    obtain ⟨p, -, rfl⟩ := hc
    show _ ∧ (_ ↔ (pointDesc s.control.image p).homeStation = some (ownStation s.control.image))
    by_cases hhome : (pointDesc s.control.image p).homeStation = some (ownStation s.control.image)
    · simp [custodyFits, hhome]
    · simp [custodyFits, hhome]

omit hpassed in
theorem initialForm_roleLaw : RoleLaw (initialForm carrier s) := by
  refine ⟨initialForm_resetLaw hrst carrier, fun i => ⟨fun _ => ?_, fun hrun => absurd (hrun.symm.trans (initialForm_runtime carrier s)) (by simp)⟩⟩
  rw [initialForm_context]
  cases hi : inputMap s.control.image i with
  | none => simp [initialContext, hi, Context.configForm, roleFor]
  | some p =>
    rw [initialContext_of_bound hi]
    simp only [roleFor, initialForm_mirror]
    rfl

omit hpassed in
theorem initialForm_rosterLaw : RosterLaw (initialForm carrier s) := by
  refine ⟨initialForm_resetLaw hrst carrier, fun a => ?_⟩
  rw [initialForm_roster]
  have hown : (initialForm carrier s).own = s.own := rfl
  have hrun : (initialForm carrier s).control.state.runtime = true := rfl
  rw [hown, hrun]
  by_cases ha : a = s.own <;> simp [ha, RosterEntry.configForm]

end

/-! ### The first evaluation (R48) -/

/-- An unused group is not evaluated, so the first evaluation is that of the used groups in increasing number. -/
theorem foldl_evaluate_filter : ∀ (l : List Group) (s : State),
    l.foldl (fun t g => evaluate g t) s =
      (l.filter fun g => (s.groupDesc g).used).foldl (fun t g => evaluate g t) s
  | [], _ => rfl
  | g :: l, s => by
    rw [List.foldl_cons, foldl_evaluate_filter l]
    simp only [evaluate_groupDesc]
    cases hused : (s.groupDesc g).used with
    | false => rw [evaluate_of_unused hused, List.filter_cons_of_neg (by simp [hused])]
    | true => rw [List.filter_cons_of_pos (p := fun k => (s.groupDesc k).used) hused, List.foldl_cons]

/-- Evaluations of distinct groups that start CLEAR leave each of them standing as its counts have it. -/
theorem foldl_evaluate_standsAt : ∀ (l : List Group) {s : State}, l.Nodup →
    (∀ g ∈ l, (s.voter.groups.get g).state = .clear) → (∀ g, g ∈ l ∨ StandsAt s g) →
    ∀ g, StandsAt (l.foldl (fun t g => evaluate g t) s) g
  | [], _, _, _, hs => fun g => (hs g).resolve_left (by simp)
  | a :: l, s, hnodup, hclear, hs => by
    obtain ⟨ha, hnodup⟩ := List.nodup_cons.mp hnodup
    have hne : ∀ {g}, g ∈ l → g ≠ a := fun hg h => ha (h ▸ hg)
    refine foldl_evaluate_standsAt l hnodup (fun g hg => ?_) (fun g => ?_)
    · rw [evaluate_others (hne hg)]
      exact hclear g (by simp [hg])
    · by_cases hga : g = a
      · subst hga
        exact .inr (evaluate_standsAt_self fun h => by simp [hclear g (by simp)] at h)
      · rcases hs g with hg | hg
        · exact .inl ((List.mem_cons.mp hg).resolve_left hga)
        · exact .inr (hg.congr (evaluate_voterStep a s).control (evaluate_others hga s))

theorem initialForm_group (carrier : Bool) (s : State) (g : Group) :
    (initialForm carrier s).voter.groups.get g = GroupRecord.configForm := Table.get_fill _ _

theorem setLines_countedAt {g : Group} (h : CountedAt s g) : CountedAt (setLines s) g := h

theorem setLines_standsAt {g : Group} (h : StandsAt s g) : StandsAt (setLines s) g := h

/-- What counting and the moves of a group keep, a used group's evaluation keeps, and an unused one's. -/
theorem foldl_evaluate_keeps {L : State → Prop} (move : ∀ {g s t}, GroupMove F g s t → L s → L t)
    (count : ∀ {g s}, L s → L (counted g s)) (l : List Group) (hs : L s) :
    L (l.foldl (fun t g => evaluate g t) s) := by
  induction l generalizing s with
  | nil => exact hs
  | cons g l ih =>
    refine ih ?_
    show L (evaluate g s)
    cases hused : (s.groupDesc g).used with
    | false => rw [evaluate_of_unused hused]; exact hs
    | true => exact evaluate_keeps (g := g) move count hused hs

/-- The first evaluation keeps what counting, the moves of a group and the setting of the lines keep. -/
theorem firstEvaluation_keeps {L : State → Prop} (move : ∀ {g s t}, GroupMove F g s t → L s → L t)
    (count : ∀ {g s}, L s → L (counted g s)) (lines : ∀ {s}, L s → L (setLines s)) (hs : L s) : L (firstEvaluation s) :=
  lines (foldl_evaluate_keeps move count (List.finRange 16) hs)

theorem Started.groupLaw (h : Started s t) : GroupLaw t := by
  obtain ⟨carrier, rfl⟩ := h.result
  refine firstEvaluation_keeps (F := fun _ => True) (fun hm => GroupMoves.groupLaw (.single hm)) counted_groupLaw id
    fun g => ?_
  rw [initialForm_group]
  exact configForm_fits

theorem Started.urgentLaw (h : Started s t) : UrgentLaw t := by
  obtain ⟨carrier, rfl⟩ := h.result
  exact firstEvaluation_keeps (F := fun _ => True) GroupMove.urgentLaw id id ⟨List.nodup_nil, Nat.zero_le _⟩

theorem Started.eventLaw (h : Started s t) (hs : EventLaw s) : EventLaw t := by
  obtain ⟨carrier, rfl⟩ := h.result
  obtain ⟨hlen, hattn, hover⟩ := hs
  exact firstEvaluation_keeps (F := fun _ => True) GroupMove.eventLaw id id ⟨hlen, hattn, hover⟩

theorem setLines_lineLaw_of_reset (h : ResetLaw (setLines s)) : LineLaw (setLines s) := ⟨h, rfl⟩

theorem Started.lineLaw (h : Started s t) : LineLaw t := by
  have hreset := h.resetLaw
  obtain ⟨carrier, rfl⟩ := h.result
  rw [firstEvaluation] at hreset ⊢
  exact setLines_lineLaw_of_reset hreset

theorem Started.voteLaw (h : Started s t) : VoteLaw t := by
  refine ⟨h.resetLaw, fun _ g => ?_⟩
  obtain ⟨carrier, rfl⟩ := h.result
  refine setLines_countedAt ?_
  rw [foldl_evaluate_filter]
  refine foldl_evaluate_countedAt _ (fun k hk => (List.mem_filter.mp hk).2) (fun k => ?_) g
  cases hused : (State.groupDesc (initialForm carrier s) k).used with
  | true => exact .inl (List.mem_filter.mpr ⟨List.mem_finRange k, hused⟩)
  | false => exact .inr ⟨fun h => absurd (hused.symm.trans h) (by simp), fun _ => initialForm_group carrier s k⟩

theorem Started.standingLaw (h : Started s t) : StandingLaw t := by
  refine ⟨h.resetLaw, fun _ g => ?_⟩
  obtain ⟨carrier, rfl⟩ := h.result
  refine setLines_standsAt ?_
  exact foldl_evaluate_standsAt (List.finRange 16) (s := initialForm carrier s) (List.nodup_finRange 16)
    (fun k _ => by rw [initialForm_group]; rfl) (fun k => .inl (List.mem_finRange k)) g

theorem Started.noticeLaw (h : Started s t) : NoticeLaw t :=
  h.keeps (fun _ _ _ _ => id) fun _ => ⟨List.nodup_nil, Nat.zero_le _⟩

theorem Started.countLaw (h : Started s t) (hs : CountLaw s) : CountLaw t :=
  h.keeps (fun _ _ _ _ => id) fun carrier => ⟨hs.1, Nat.zero_le _, fun p => by
    rw [initialForm_mirror]; exact Nat.zero_le _⟩

theorem Started.publishLaw (h : Started s t) : PublishLaw t :=
  h.keeps (fun _ _ _ _ => id) fun carrier => by
    refine ⟨List.nodup_nil, fun p hp => by simp [initialForm, Publisher.resetForm] at hp, fun p hp => ?_⟩
    simp [initialForm, Publisher.resetForm, PubRecord.resetForm] at hp

theorem Started.imageLaw (h : Started s t) (hs : ImageLaw s) : ImageLaw t :=
  h.keeps (fun _ _ _ _ => id) fun _ => hs

theorem Started.runtime (h : Started s t) : t.control.state.runtime = true := by
  obtain ⟨carrier, hstep⟩ := h.formed
  rw [hstep.control]; rfl

theorem Started.timeLaw (h : Started s t) : TimeLaw t := fun hrun => absurd (h.runtime.symm.trans hrun) (by simp)

theorem Started.ownerLaw (h : Started s t) : OwnerLaw t :=
  h.keeps (fun _ _ _ _ => id) (initialForm_ownerLaw h.rst h.passed)

theorem Started.contextLaw (h : Started s t) : ContextLaw t :=
  h.keeps (fun _ _ _ _ => id) (initialForm_contextLaw h.rst h.passed)

theorem Started.contentLaw (h : Started s t) : ContentLaw t :=
  h.keeps (fun _ _ _ _ => id) (initialForm_contentLaw h.rst h.passed)

theorem Started.custodyLaw (h : Started s t) : CustodyLaw t :=
  h.keeps (fun _ _ _ _ => id) (initialForm_custodyLaw h.rst)

theorem Started.rosterLaw (h : Started s t) : RosterLaw t :=
  h.keeps (fun _ _ _ _ => id) (initialForm_rosterLaw h.rst)

theorem roleLaw_forgetsVoter : ForgetsVoter RoleLaw := fun _ _ _ _ hs =>
  ⟨hs.1, fun i => ⟨fun hrun => ((hs.2 i).1 hrun).trans (roleFor_congr rfl _ fun _ _ => rfl).symm, (hs.2 i).2⟩⟩

theorem Started.roleLaw (h : Started s t) : RoleLaw t :=
  h.keeps roleLaw_forgetsVoter (initialForm_roleLaw h.rst)

end Sys2Proof.Machine

end

section

namespace Sys2Proof.Machine

open Sys2Proof.Safety Relation

variable {F : Group → Prop} {B I K : Prop} {s t u : State} {c : Instr}

/-! ### What a command does, altogether -/

/-- The groups that a command may take out of TRIPPED: those that its bytes name in a RELEASE frame (R102, R108). -/
def Releases (c : Instr) (g : Group) : Prop := ∃ bytes, c ∈ frameCommands bytes ∧ ReleaseNames bytes g

/-- A command resets the device by hardware (R146). -/
def HardwareReset (c : Instr) : Prop := (∃ a b, c = .powerUp a b) ∨ c = .rstnAsserted

/-- The effect of a command: a chain of steps, a millisecond of local time, a reset, or the runtime initialization. -/
inductive Effect (c : Instr) (s : State) : State → Prop
  | runs {t : State} (h : Runs (Releases c) (s.control.state = .run ∧ c = .win) (s.control.state = .config) s t) :
      Effect c s t
  | tick : Effect c s (Machine.tick s)
  | blank {t : State} (h : Blank (HardwareReset c) s t) : Effect c s t
  | started {t : State} (h : Started s t) : Effect c s t

theorem Effect.of_moves
    (h : Moves (Releases c) (s.control.state = .run ∧ c = .win) s t) : Effect c s t := .runs (Moves.runs h)

/-- A law that the moves, the changes of the station state, the local time, the resets and the runtime initialization keep is
kept by every command. -/
theorem Effect.keeps {L : State → Prop} (h : Effect c s t) (move : ∀ {F B s t}, Move F B s t → L s → L t)
    (control : ∀ {I s x}, ControlMove I s x → L s → L { s with control := x }) (tick : ∀ {s}, L s → L (Machine.tick s))
    (blank : ∀ {K s t}, Blank K s t → L s → L t) (started : ∀ {s t}, Started s t → L s → L t) (hs : L s) : L t := by
  cases h with
  | runs h =>
    refine keeps_of_step (fun hm hu => ?_) h hs
    cases hm with
    | move hm => exact move hm hu
    | control x hx => exact control hx hu
  | tick => exact tick hs
  | blank h => exact blank h hs
  | started h => exact started h hs

/-! ### The commands of each kind -/

/-- A host command does nothing in reset, ends the port's wait, or does what it does with RSTn released (R146, R167). -/
theorem hostCommand_effect {f : State → State} (h : s.control.rstAsserted = false → Effect c s (f s)) :
    Effect c s (hostCommand f s) := by
  unfold hostCommand
  split
  · exact .runs .refl
  next hrst =>
    split
    · exact .of_moves (Basic.port _).moves
    · exact h (by simpa using hrst)

theorem hostCommand_moves {f : State → State}
    (h : Moves (Releases c) (s.control.state = .run ∧ c = .win) s (f s)) : Effect c s (hostCommand f s) :=
  hostCommand_effect fun _ => .of_moves h

theorem runs_answer {F : Group → Prop} {bytes : List Byte} (h : Runs F B I s t) : Runs F B I s (t.answer bytes) :=
  h.trans (Moves.runs (answer_moves bytes t))

/-- The station state changed while RSTn is released (R148, R149, R156, R157). -/
theorem controlMove_of_released {x : StationController} (hrst : s.control.rstAsserted = false)
    (hx : x.rstAsserted = s.control.rstAsserted) (hrun : x.state.runtime = s.control.state.runtime)
    (himage : x.image = s.control.image) : ControlMove I s x :=
  ⟨fun h => hx ▸ h, fun _ h => absurd (hrst.symm.trans (hx.symm.trans h)) (by simp), hrun, .inl himage⟩

theorem imageRange_le {off : Half} {data : List Byte} (h : imageRange off data.length = true) :
    off.toNat + data.length ≤ Config.imageBytes := by
  simp only [imageRange, Bool.and_eq_true, decide_eq_true_eq] at h
  exact h.2

theorem writeImage_effect (off : Half) (data : List Byte) (_ : s.control.rstAsserted = false) :
    Effect c s (writeImage off data s) := by
  unfold writeImage
  split
  next hconfig =>
    split
    next hrange =>
      refine .runs (runs_answer (ControlMove.runs ⟨id, fun _ _ => hconfig, rfl, .inr ⟨hconfig, hconfig, fun himage => ?_⟩⟩))
      exact Memory.writeAll_wf data himage (imageRange_le hrange)
    · exact .of_moves (answer_moves _ s)
  all_goals exact .of_moves (answer_moves _ s)

theorem startStation_effect (hrst : s.control.rstAsserted = false) : Effect c s (startStation s) := by
  unfold startStation
  split
  next hconfig =>
    split
    · exact .runs (runs_answer (ControlMove.runs (controlMove_of_released hrst rfl (by rw [hconfig]; rfl) rfl)))
    · exact .runs (runs_answer (ControlMove.runs (controlMove_of_released hrst rfl rfl rfl)))
  all_goals exact .of_moves (answer_moves _ s)

theorem restartStation_blank (sfsHigh : Bool) (s : State) :
    Blank K s ((restartStation sfsHigh s).answer [0x00]) := by
  refine .mk _ _ _ _ _ rfl (.inl rfl) fun f => ?_
  cases s.link.transmission <;> simp [cutTransmission]

theorem validationCompletes_effect (carrier : Bool) : Effect c s (validationCompletes carrier s) := by
  unfold validationCompletes
  split
  next h =>
    simp only [Bool.and_eq_true, Bool.not_eq_true', beq_iff_eq] at h
    obtain ⟨hrst, hvalidating⟩ := h
    split
    next hpassed => exact .started ⟨hrst, hvalidating, hpassed, carrier, rfl⟩
    next =>
      exact .runs (ControlMove.runs (controlMove_of_released hrst rfl (by rw [hvalidating]; rfl) rfl))
  next => exact .runs .refl

theorem listenExpired_effect : Effect c s (listenExpired s) := by
  unfold listenExpired
  split
  next h =>
    simp only [Bool.and_eq_true, Bool.not_eq_true', beq_iff_eq] at h
    obtain ⟨⟨hrst, hlisten⟩, -⟩ := h
    extract_lets old s1
    have hcontrol : ControlMove (s.control.state = .config) s { s.control with state := .run, listen := .stopped } :=
      controlMove_of_released hrst rfl (by rw [hlisten]; rfl) rfl
    refine .runs (hcontrol.runs.trans (Moves.runs ?_))
    refine ReflTransGen.trans (raise_moves .runEntered _) ?_
    refine ReflTransGen.trans (roster_moves (s := s1) (r := { s1.roster with
      presenceTimer := Timer.start (presenceInterval s1.control.image), presencePending := true, firstPresence := false })
      rfl) ?_
    exact (stopHoldoffs_moves _).trans (reexamineWhere_moves _ _)
  next => exact .runs .refl

theorem isolationExpired_effect : Effect c s (isolationExpired s) := by
  unfold isolationExpired
  split
  next h =>
    simp only [Bool.and_eq_true, Bool.not_eq_true', beq_iff_eq] at h
    obtain ⟨⟨hrst, hisolated⟩, -⟩ := h
    extract_lets old s1
    have hstop : ControlMove (s.control.state = .config) s { s.control with isolation := .stopped } :=
      controlMove_of_released hrst rfl rfl rfl
    have hcontrol : s1.control = { s.control with isolation := .stopped } := raise_control _ _
    refine .runs ((hstop.runs.trans (Moves.runs (raise_moves .linkRestored _))).trans ?_)
    exact ControlMove.runs (controlMove_of_released (by rw [hcontrol]; exact hrst) rfl
      (by rw [hcontrol]; exact (congrArg StationState.runtime hisolated).symm) rfl)
  next => exact .runs .refl

theorem isolate_runs (hrun : s.control.state = .run) : Runs F B I s (isolate s) := by
  unfold isolate
  extract_lets s1
  have h1 : Runs F B I s s1 := Moves.runs (raise_moves .linkIsolated s)
  have hcontrol : s1.control = s.control := raise_control _ s
  have h2 : Runs F B I s1 { s1 with roster := { s1.roster with presenceTimer := .stopped } } :=
    Moves.runs (roster_moves rfl)
  have h3 : Runs F B I { s1 with roster := { s1.roster with presenceTimer := .stopped } }
      { s1 with roster := { s1.roster with presenceTimer := .stopped }, link := { s1.link with deferral := none } } :=
    Moves.runs (withDeferral_moves none { s1 with roster := { s1.roster with presenceTimer := .stopped } })
  refine ((h1.trans h2).trans h3).trans (ControlMove.runs ⟨id, fun hreset hrst => ?_, ?_, .inl rfl⟩)
  · have hconfig : s1.control.state = .config := hreset hrst
    rw [hcontrol, hrun] at hconfig
    cases hconfig
  · show StationState.runtime .isolated = s1.control.state.runtime
    rw [hcontrol, hrun]
    rfl

theorem endJam_effect : Effect c s (endJam s) := by
  unfold endJam
  split
  · extract_lets s1
    have h1 : Runs (Releases c) (s.control.state = .run ∧ c = .win) (s.control.state = .config) s s1 :=
      Moves.runs ((releaseLine_moves s).trans (markJammed_moves _))
    split
    next h => exact .runs (h1.trans (isolate_runs h.1))
    next => exact .runs h1
  · exact .of_moves (releaseLine_moves s)
  all_goals exact .runs .refl

theorem releaseReset_effect (sfsHigh mcsnLow : Bool) : Effect c s (releaseReset sfsHigh mcsnLow s) := by
  unfold releaseReset
  split
  next hrst =>
    have hcontrol : ControlMove (s.control.state = .config) s { s.control with rstAsserted := false } :=
      ⟨fun h => absurd h (by simp), fun _ h => absurd h (by simp), rfl, .inl rfl⟩
    refine .runs (hcontrol.runs.trans (Moves.runs ?_))
    exact ReflTransGen.trans (Basic.sample (s := { s with control := { s.control with rstAsserted := false } }) _).moves
      (Basic.port _).moves
  next => exact .runs .refl

theorem powerUpForm_blank (hK : K) (rst sfsHigh mcsnLow : Bool) (s : State) :
    Blank K s (powerUpForm rst sfsHigh mcsnLow s) :=
  .mk _ _ .idle false _ rfl (.inr ⟨hK, rfl⟩) (by simp)

theorem receiveFrame_effect (bytes : List Byte) (hc : c ∈ frameCommands bytes) : Effect c s (receiveFrame bytes s) :=
  .of_moves (receiveFrame_moves (fun _ hg => ⟨bytes, hc, hg⟩) s)

/-- Every command answers a next state, with an effect of one of the kinds. -/
theorem exec_effect (c : Instr) (s : State) : ∃ t, exec c s = .next t ∧ Effect c s t := by
  cases c with
  | powerUp a b => exact ⟨_, rfl, .blank (powerUpForm_blank (.inl ⟨a, b, rfl⟩) _ _ _ s)⟩
  | rstnAsserted => exact ⟨_, rfl, .blank (powerUpForm_blank (.inr rfl) _ _ _ s)⟩
  | rstnReleased a b => exact ⟨_, rfl, releaseReset_effect a b⟩
  | sampleArrival bits => exact ⟨_, rfl, .of_moves (sampleEnds_moves bits s)⟩
  | pointFrame bytes => exact ⟨_, rfl, receiveFrame_effect bytes (by simp [frameCommands])⟩
  | claimFrame bytes => exact ⟨_, rfl, receiveFrame_effect bytes (by simp [frameCommands])⟩
  | yieldFrame bytes => exact ⟨_, rfl, receiveFrame_effect bytes (by simp [frameCommands])⟩
  | reclaimFrame bytes => exact ⟨_, rfl, receiveFrame_effect bytes (by simp [frameCommands])⟩
  | trippedFrame bytes => exact ⟨_, rfl, receiveFrame_effect bytes (by simp [frameCommands])⟩
  | releaseFrame bytes => exact ⟨_, rfl, receiveFrame_effect bytes (by simp [frameCommands])⟩
  | presenceFrame bytes => exact ⟨_, rfl, receiveFrame_effect bytes (by simp [frameCommands])⟩
  | badFrame bytes => exact ⟨_, rfl, receiveFrame_effect bytes (by simp [frameCommands])⟩
  | jam => exact ⟨_, rfl, .of_moves (receiveOther_moves resetAnchors_moves s)⟩
  | truncatedFrame => exact ⟨_, rfl, .of_moves (receiveOther_moves (fun _ => .refl) s)⟩
  | idleEvent => exact ⟨_, rfl, .of_moves (idleEvent_moves s)⟩
  | carrierSeen => exact ⟨_, rfl, .of_moves (withDeferral_moves none s)⟩
  | win => exact ⟨_, rfl, .of_moves (winSlot_moves fun hrun => ⟨hrun, rfl⟩)⟩
  | completion => exact ⟨_, rfl, .of_moves (completeFrame_moves s)⟩
  | collision => exact ⟨_, rfl, .of_moves (collideFrame_moves s)⟩
  | jamEnd => exact ⟨_, rfl, endJam_effect⟩
  | freshnessExpiry p => exact ⟨_, rfl, .of_moves (freshnessExpired_moves p s)⟩
  | confirmTimerExpiry g => exact ⟨_, rfl, .of_moves (confirmExpiry_moves g s)⟩
  | refreshTimerExpiry p => exact ⟨_, rfl, .of_moves (refreshExpiry_moves p s)⟩
  | claimRetryExpiry i => exact ⟨_, rfl, .of_moves (claimRetryExpired_moves i s)⟩
  | reclaimWaitExpiry i => exact ⟨_, rfl, .of_moves (reclaimWaitExpired_moves i s)⟩
  | holdoffExpiry i => exact ⟨_, rfl, .of_moves (holdoffExpired_moves i s)⟩
  | silenceTimerExpiry a => exact ⟨_, rfl, .of_moves (silenceExpired_moves a s)⟩
  | presenceTimerExpiry => exact ⟨_, rfl, .of_moves (presenceExpired_moves s)⟩
  | listenTimerExpiry => exact ⟨_, rfl, listenExpired_effect⟩
  | isolationHoldExpiry => exact ⟨_, rfl, isolationExpired_effect⟩
  | validationCompletion carrier => exact ⟨_, rfl, validationCompletes_effect carrier⟩
  | writeImage offset data => exact ⟨_, rfl, hostCommand_effect (writeImage_effect offset data)⟩
  | readImage offset count =>
    refine ⟨_, rfl, hostCommand_moves ?_⟩
    unfold readImage
    split <;> exact answer_moves _ s
  | start => exact ⟨_, rfl, hostCommand_effect startStation_effect⟩
  | restart sfsHigh => exact ⟨_, rfl, hostCommand_effect fun _ => .blank (restartStation_blank sfsHigh s)⟩
  | readStatus => exact ⟨_, rfl, hostCommand_moves (readStatus_moves s)⟩
  | readPoint b => exact ⟨_, rfl, hostCommand_moves (inRuntime_moves fun _ => answer_moves _ s)⟩
  | readGroup b => exact ⟨_, rfl, hostCommand_moves (inRuntime_moves fun _ => answer_moves _ s)⟩
  | readRoster b => exact ⟨_, rfl, hostCommand_moves (inRuntime_moves fun _ => answer_moves _ s)⟩
  | popEvent => exact ⟨_, rfl, hostCommand_moves (popEvent_moves s)⟩
  | clearLatch b => exact ⟨_, rfl, hostCommand_moves (clearLatchCommand_moves b s)⟩
  | release b => exact ⟨_, rfl, hostCommand_moves (releaseCommand_moves b s)⟩
  | reclaim => exact ⟨_, rfl, hostCommand_moves (reclaimCommand_moves s)⟩
  | unknownCommandByte b =>
    refine ⟨_, rfl, hostCommand_moves ?_⟩
    unfold unknownCommand
    split
    · exact .refl
    · exact answer_moves _ s
  | partialCommandDiscarded => exact ⟨_, rfl, hostCommand_moves (Basic.port _).moves⟩
  | localTimeTick => exact ⟨_, rfl, .tick⟩

/-- A law that every effect keeps, and that does not speak of the commands that wait, is kept by every step. -/
theorem kept_of_effect {L : State → Prop} (hpending : ∀ s q, L s → L { s with pending := q })
    (heffect : ∀ {c s t}, Effect c s t → L s → L t) : Kept L := by
  intro s t hs hstep
  unfold step at hstep
  split at hstep
  · cases hstep
    exact hs
  next c rest _ =>
    obtain ⟨u, hexec, hu⟩ := exec_effect c { s with pending := rest }
    rw [hexec] at hstep
    cases hstep
    exact heffect hu (hpending s rest hs)

end Sys2Proof.Machine

end

section

namespace Sys2Proof.Machine

open Sys2Proof.Safety Relation

variable {F : Group → Prop} {B I K : Prop} {s t u : State} {c : Instr}

/-! ### The laws that every command keeps -/

theorem kept_urgentLaw : Kept UrgentLaw := kept_of_effect (fun _ _ => id) fun h =>
  h.keeps Move.urgentLaw (fun _ => id) tick_urgentLaw (fun h _ => h.urgentLaw) fun h _ => h.urgentLaw

theorem kept_eventLaw : Kept EventLaw := kept_of_effect (fun _ _ => id) fun h =>
  h.keeps Move.eventLaw (fun _ => id) tick_eventLaw (fun h _ => h.eventLaw) Started.eventLaw

theorem kept_noticeLaw : Kept NoticeLaw := kept_of_effect (fun _ _ => id) fun h =>
  h.keeps Move.noticeLaw (fun _ => id) tick_noticeLaw (fun h _ => h.noticeLaw) fun h _ => h.noticeLaw

theorem kept_countLaw : Kept CountLaw := kept_of_effect (fun _ _ => id) fun h =>
  h.keeps Move.countLaw (fun _ => id) tick_countLaw (fun h _ => h.countLaw) Started.countLaw

theorem Move.imageLaw (h : Move F B s t) (hs : ImageLaw s) : ImageLaw t := by
  simpa [ImageLaw, h.stays.control] using hs

theorem kept_imageLaw : Kept ImageLaw := kept_of_effect (fun _ _ => id) fun h =>
  h.keeps Move.imageLaw ControlMove.imageLaw tick_imageLaw Blank.imageLaw Started.imageLaw

theorem Move.timeLaw (h : Move F B s t) (hs : TimeLaw s) : TimeLaw t := by
  simpa [TimeLaw, h.stays.control, h.stays.time] using hs

theorem kept_timeLaw : Kept TimeLaw := kept_of_effect (fun _ _ => id) fun h =>
  h.keeps Move.timeLaw ControlMove.timeLaw tick_timeLaw (fun h _ => h.timeLaw) fun h _ => h.timeLaw

theorem kept_lineLaw : Kept LineLaw := kept_of_effect (fun _ _ => id) fun h =>
  h.keeps Move.lineLaw ControlMove.lineLaw tick_lineLaw (fun h _ => h.lineLaw) fun h _ => h.lineLaw

theorem kept_groupLaw : Kept GroupLaw := kept_of_effect (fun _ _ => id) fun h =>
  h.keeps Move.groupLaw (fun _ => id) tick_groupLaw (fun h _ => h.groupLaw) fun h _ => h.groupLaw

theorem kept_voteLaw : Kept VoteLaw := kept_of_effect (fun _ _ => id) fun h =>
  h.keeps Move.voteLaw ControlMove.voteLaw tick_voteLaw (fun h _ => h.runtimeLaws.1) fun h _ => h.voteLaw

theorem kept_standingLaw : Kept StandingLaw := kept_of_effect (fun _ _ => id) fun h =>
  h.keeps Move.standingLaw ControlMove.standingLaw tick_standingLaw (fun h _ => h.runtimeLaws.2.1) fun h _ =>
    h.standingLaw

theorem kept_ownerLaw : Kept OwnerLaw := kept_of_effect (fun _ _ => id) fun h =>
  h.keeps Move.ownerLaw ControlMove.ownerLaw tick_ownerLaw (fun h _ => h.runtimeLaws.2.2.1) fun h _ => h.ownerLaw

theorem roleLaw_pending (s : State) (q : List Instr) (hs : RoleLaw s) : RoleLaw { s with pending := q } :=
  ⟨hs.1, fun i => ⟨fun hrun => ((hs.2 i).1 hrun).trans (roleFor_congr rfl _ fun _ _ => rfl).symm, (hs.2 i).2⟩⟩

theorem kept_roleLaw : Kept RoleLaw := kept_of_effect roleLaw_pending fun h =>
  h.keeps Move.roleLaw ControlMove.roleLaw tick_roleLaw (fun h _ => h.roleLaw) fun h _ => h.roleLaw

theorem kept_custodyLaw : Kept CustodyLaw := kept_of_effect (fun _ _ => id) fun h =>
  h.keeps Move.custodyLaw ControlMove.custodyLaw tick_custodyLaw (fun h _ => h.custodyLaw) fun h _ => h.custodyLaw

theorem kept_publishLaw : Kept PublishLaw := kept_of_effect (fun _ _ => id) fun h =>
  h.keeps Move.publishLaw ControlMove.publishLaw tick_publishLaw (fun h _ => h.publishLaw) fun h _ => h.publishLaw

theorem kept_rosterLaw : Kept RosterLaw := kept_of_effect (fun _ _ => id) fun h =>
  h.keeps Move.rosterLaw ControlMove.rosterLaw tick_rosterLaw (fun h _ => h.rosterLaw) fun h _ => h.rosterLaw

theorem kept_contextLaw : Kept ContextLaw := kept_of_effect (fun _ _ => id) fun h =>
  h.keeps Move.contextLaw ControlMove.contextLaw tick_contextLaw (fun h _ => h.runtimeLaws.2.2.2.1) fun h _ =>
    h.contextLaw

theorem kept_contentLaw : Kept ContentLaw := kept_of_effect (fun _ _ => id) fun h =>
  h.keeps Move.contentLaw ControlMove.contentLaw tick_contentLaw (fun h _ => h.runtimeLaws.2.2.2.2) fun h _ =>
    h.contentLaw

/-! ### What no command does (4.1, 9.2, 8.4, 3.4) -/

theorem Basic.epoch (h : Basic F B s t) (p : Point) : (s.mirror.get p).epoch ≤ (t.mirror.get p).epoch := by
  cases h with
  | group moves used standing => rw [moves.voterStep.mirror]; exact BitVec.le_def.mpr le_rfl
  | evaluate moves used state =>
    rw [(moves.voterStep.trans (evaluate_voterStep _ _)).mirror]; exact BitVec.le_def.mpr le_rfl
  | entry q e move quality hit =>
    exact BitVec.le_def.mpr (congrArg BitVec.toNat (get_set_congr MirrorEntry.epoch _ q p move.epoch)).ge
  | own q o e move kept =>
    by_cases hp : p = q
    · subst hp; simpa using move.epoch
    · simp [hp]
  | _ => exact BitVec.le_def.mpr le_rfl

/-- No move lowers an epoch (4.1). -/
theorem Move.epoch (h : Move F B s t) (p : Point) : (s.mirror.get p).epoch ≤ (t.mirror.get p).epoch := by
  refine h.keeps (L := fun u => (s.mirror.get p).epoch ≤ (u.mirror.get p).epoch)
    (fun hb hu => BitVec.le_trans hu (hb.epoch p)) (fun {u q e} move hu => ?_) (fun {u q o e} move hu => ?_)
    (BitVec.le_def.mpr le_rfl)
  · exact (get_set_congr MirrorEntry.epoch _ q p move.epoch).symm ▸ hu
  · by_cases hp : p = q
    · subst hp; simpa using BitVec.le_trans hu move.epoch
    · simpa [hp] using hu

/-- A group that a command may not release keeps its trip, in a state that its evaluation reaches. -/
theorem evaluate_sameTrip {g : Group} (hs : (s.voter.groups.get g).state = .tripped) (k : Group) :
    (s.voter.groups.get g).SameTrip ((evaluate k s).voter.groups.get g) := by
  by_cases hg : g = k
  · subst hg
    cases hused : (s.groupDesc g).used with
    | false => rw [evaluate_of_unused hused]; exact ⟨hs, rfl, rfl⟩
    | true =>
      rw [evaluate_of_used hused]
      have hcounted : ((counted g s).voter.groups.get g).state = .tripped := by simp [GroupRecord.count, hs]
      obtain ⟨hstate, hcause, hstamp⟩ :=
        (settle_groupMoves (F := fun _ => False) g (counted g s)).sameTrip id hcounted
      exact ⟨hstate, hcause.trans (by simp [GroupRecord.count]), hstamp.trans (by simp [GroupRecord.count])⟩
  · rw [evaluate_others hg]
    exact ⟨hs, rfl, rfl⟩

theorem GroupRecord.SameTrip.trans {r v w : GroupRecord} (h : r.SameTrip v) (k : v.SameTrip w) : r.SameTrip w :=
  ⟨k.1, k.2.1.trans h.2.1, k.2.2.trans h.2.2⟩

theorem GroupMoves.latched {g k : Group} (h : GroupMoves F g s t) (hF : ¬ F k)
    (hs : (s.voter.groups.get k).state = .tripped) : (s.voter.groups.get k).SameTrip (t.voter.groups.get k) := by
  by_cases hk : k = g
  · subst hk; exact h.sameTrip hF hs
  · rw [h.others hk]; exact ⟨hs, rfl, rfl⟩

theorem Basic.sameTrip {k : Group} (h : Basic F B s t) (hF : ¬ F k) (hs : (s.voter.groups.get k).state = .tripped) :
    (s.voter.groups.get k).SameTrip (t.voter.groups.get k) := by
  cases h with
  | group moves used standing => exact moves.latched hF hs
  | evaluate moves used state =>
    have h1 := moves.latched hF hs
    exact h1.trans (evaluate_sameTrip h1.1 _)
  | _ => exact ⟨hs, rfl, rfl⟩

/-- No move takes a group out of TRIPPED but a release of the group (3.4). -/
theorem Move.sameTrip {k : Group} (h : Move F B s t) (hF : ¬ F k) (hs : (s.voter.groups.get k).state = .tripped) :
    (s.voter.groups.get k).SameTrip (t.voter.groups.get k) :=
  h.keeps (L := fun u => (s.voter.groups.get k).SameTrip (u.voter.groups.get k))
    (fun hb hu => hu.trans (hb.sameTrip hF hu.1)) (fun _ => id) (fun _ => id) ⟨hs, rfl, rfl⟩

theorem Basic.frameBegun {f : Frame} (h : Basic F B s t) (hB : ¬ B) (ht : t.link.transmission = .frame f) :
    s.link.transmission = .frame f := by
  cases h with
  | group moves used standing => rw [moves.voterStep.eq] at ht; exact ht
  | evaluate moves used state =>
    rw [(moves.voterStep.trans (evaluate_voterStep _ _)).eq] at ht
    exact ht
  | link l urgent law frame => exact (frame f ht).resolve_right hB
  | _ => exact ht

/-- No move begins a frame where none may begin (8.4). -/
theorem Move.frameBegun {f : Frame} (h : Move F B s t) (hB : ¬ B) (hs : s.link.transmission ≠ .frame f) :
    t.link.transmission ≠ .frame f :=
  h.keeps (L := fun u => u.link.transmission ≠ .frame f) (fun hb hu ht => hu (hb.frameBegun hB ht)) (fun _ => id)
    (fun _ => id) hs

theorem Runs.keeps {L : State → Prop} (h : Runs F B I s t) (move : ∀ {s t}, Move F B s t → L s → L t)
    (control : ∀ {s x}, L s → L { s with control := x }) (hs : L s) : L t := by
  refine keeps_of_step (fun hm hu => ?_) h hs
  cases hm with
  | move hm => exact move hm hu
  | control x hx => exact control hu

theorem Runs.image (h : Runs F B I s t) (hI : ¬ I) : t.control.image = s.control.image := by
  refine keeps_of_step (L := fun u => u.control.image = s.control.image) (fun hm hu => ?_) h rfl
  cases hm with
  | move hm => rw [hm.stays.control]; exact hu
  | control x hx => exact (hx.image.resolve_right fun h => hI h.1).trans hu

/-- No command touches the commands that wait. -/
theorem Effect.pending (h : Effect c s t) : t.pending = s.pending := by
  refine h.keeps (L := fun u => u.pending = s.pending) (fun hm hu => hm.stays.pending.trans hu) (fun _ => id)
    (fun {u} hu => ?_) (fun h hu => h.pending.trans hu) (fun h hu => ?_) rfl
  · exact tick_keeps (L := fun u => u.pending = s.pending) (fun ha hu => by rw [tick_of_active ha]; exact hu) hu
  · obtain ⟨carrier, hstep⟩ := h.formed
    exact hstep.pending.trans hu

theorem Started.inactive (h : Started s t) : s.active = false := by simp [State.active, h.validating, StationState.runtime]

theorem Blank.inactive (h : Blank K s t) : t.active = false := by simp [State.active, h.not_runtime]

theorem Effect.epoch (h : Effect c s t) (hs : s.active = true) (ht : t.active = true) (p : Point) :
    (s.mirror.get p).epoch ≤ (t.mirror.get p).epoch := by
  cases h with
  | runs h =>
    exact h.keeps (L := fun u => (s.mirror.get p).epoch ≤ (u.mirror.get p).epoch)
      (fun hm hu => BitVec.le_trans hu (hm.epoch p)) id (BitVec.le_def.mpr le_rfl)
  | tick =>
    rw [tick_of_active hs, Table.get_map]
    exact BitVec.le_def.mpr le_rfl
  | blank h => exact absurd (ht.symm.trans h.inactive) (by simp)
  | started h => exact absurd (hs.symm.trans h.inactive) (by simp)

theorem Effect.image (h : Effect c s t) (hconfig : s.control.state ≠ .config) (hreset : ¬ HardwareReset c) :
    t.control.image = s.control.image := by
  cases h with
  | runs h => exact h.image hconfig
  | tick =>
    exact tick_keeps (L := fun u => u.control.image = s.control.image)
      (fun ha hu => by rw [tick_of_active ha]) rfl
  | blank h => exact h.image.resolve_right fun h => hreset h.1
  | started h =>
    obtain ⟨carrier, hstep⟩ := h.formed
    rw [hstep.control]
    rfl

theorem Effect.frameBegun {f : Frame} (h : Effect c s t) (ht : t.link.transmission = .frame f)
    (hs : s.link.transmission ≠ .frame f) : s.control.state = .run ∧ c = .win := by
  by_contra hB
  revert ht
  cases h with
  | runs h => exact h.keeps (L := fun u => u.link.transmission ≠ .frame f) (fun hm hu => hm.frameBegun hB hu) id hs
  | tick =>
    exact tick_keeps (L := fun u => u.link.transmission ≠ .frame f)
      (fun ha hu => by rw [tick_of_active ha]; exact hu) hs
  | blank h =>
    cases h with
    | mk x y tr lt port config image noFrame => exact noFrame f
  | started h =>
    obtain ⟨carrier, hstep⟩ := h.formed
    rw [hstep.eq]
    exact hs

theorem Effect.sameTrip {g : Group} (h : Effect c s t) (hs : s.active = true) (ht : t.active = true)
    (htripped : (s.voter.groups.get g).state = .tripped) (hg : ¬ Releases c g) :
    (s.voter.groups.get g).SameTrip (t.voter.groups.get g) := by
  cases h with
  | runs h =>
    exact h.keeps (L := fun u => (s.voter.groups.get g).SameTrip (u.voter.groups.get g))
      (fun hm hu => hu.trans (hm.sameTrip hg hu.1)) id ⟨htripped, rfl, rfl⟩
  | tick =>
    rw [tick_of_active hs, Table.get_map]
    exact ⟨htripped, rfl, rfl⟩
  | blank h => exact absurd (ht.symm.trans h.inactive) (by simp)
  | started h => exact absurd (hs.symm.trans h.inactive) (by simp)

end Sys2Proof.Machine

end

section

namespace Sys2Proof.Proofs

open Sys2Proof.Machine Sys2Proof.Safety

/-- Settles O56: each queue law is kept by every kind of effect that a command has. -/
theorem queueLawsKept : Obligations.QueueLawsKept :=
  ⟨kept_urgentLaw, kept_eventLaw, kept_noticeLaw, kept_countLaw, kept_imageLaw, kept_timeLaw⟩

/-- Settles O57: a group's moves keep its record's law, an evaluation counts it and leaves it standing as its counts have it, and
the points passed to the voter are those whose votes have changed. -/
theorem voterLawsKept : Obligations.VoterLawsKept :=
  ⟨kept_lineLaw, kept_groupLaw, kept_voteLaw, kept_standingLaw⟩

/-- Settles O58: owner, epoch and role are set together, by decisions that give a station that serves the point, and a point that
this station loses leaves its publish list in the same step. -/
theorem ownershipLawsKept : Obligations.OwnershipLawsKept :=
  ⟨kept_ownerLaw, kept_roleLaw, kept_custodyLaw, kept_publishLaw, kept_rosterLaw⟩

/-- Settles O60: what each kind of effect keeps, with the frames, the releases and the resets that the command itself allows. -/
theorem noCommandBreaks : Obligations.NoCommandBreaks := by
  intro c s
  obtain ⟨t, hexec, h⟩ := exec_effect c s
  refine ⟨t, hexec, h.pending, h.epoch, fun hconfig hpower hrstn => h.image hconfig ?_, fun f => h.frameBegun,
    fun g hs ht htripped => ?_⟩
  · rintro (⟨a, b, rfl⟩ | rfl)
    · exact hpower a b rfl
    · exact hrstn rfl
  · by_cases hg : Releases c g
    · obtain ⟨bytes, hc, f, b, hparse, hpayload, hb⟩ := hg
      exact .inr ⟨bytes, f, b, hc, hparse, hpayload, hb⟩
    · exact .inl (h.sameTrip hs ht htripped hg)

end Sys2Proof.Proofs

end

/-! The line law: LTXEN while sending, frames and deferrals in RUN alone, and PRESENCE alone until the first has completed. -/

section

namespace Sys2Proof.Machine

open Sys2Proof.Safety Relation

variable {s t u : State} {c : Instr} {f : Frame} {p : Payload}

/-! ### What leaves the line as it is -/

/-- `t` has the control block, the transmission, the deferral and the first-presence mark of `s`. -/
structure LineKept (s t : State) : Prop where
  control : t.control = s.control
  transmission : t.link.transmission = s.link.transmission
  ltxen : t.link.ltxen = s.link.ltxen
  completion : t.link.completion = s.link.completion
  deferral : t.link.deferral = s.link.deferral
  firstPresence : t.roster.firstPresence = s.roster.firstPresence

theorem LineKept.refl (s : State) : LineKept s s := ⟨rfl, rfl, rfl, rfl, rfl, rfl⟩

theorem LineKept.trans (h : LineKept s t) (k : LineKept t u) : LineKept s u :=
  ⟨k.control.trans h.control, k.transmission.trans h.transmission, k.ltxen.trans h.ltxen,
    k.completion.trans h.completion, k.deferral.trans h.deferral, k.firstPresence.trans h.firstPresence⟩

theorem TakeStep.lineKept (h : TakeStep s t) : LineKept s t :=
  ⟨h.control, by rw [h.link], by rw [h.link], by rw [h.link], by rw [h.link], by rw [h.roster]⟩

theorem LineKept.frameLaw (h : LineKept s t) (hs : FrameLaw s) : FrameLaw t := by
  unfold FrameLaw ResetLaw at hs ⊢
  rw [h.control, h.transmission, h.ltxen, h.completion, h.deferral, h.firstPresence]
  exact hs

/-- A station outside RUN that sends no frame: its line law does not depend on its state. -/
theorem frameLaw_of_not_run (hs : FrameLaw s) (hrun : s.control.state ≠ .run) (hreset : ResetLaw t)
    (htransmission : t.link.transmission = s.link.transmission) (hltxen : t.link.ltxen = s.link.ltxen)
    (hcompletion : t.link.completion = none) (hdeferral : t.link.deferral = none) : FrameLaw t := by
  obtain ⟨-, hsending, hframe, -, hjam, -, -⟩ := hs
  have hnoFrame : ∀ f, s.link.transmission ≠ .frame f := fun f h => hrun (hframe f h)
  refine ⟨hreset, by rw [hltxen, htransmission]; exact hsending, fun f h => ?_, by simp [hcompletion], fun h => ?_,
    by simp [hdeferral], fun _ => ⟨by simp [hdeferral], fun f h => ?_⟩⟩
  · exact absurd (htransmission.symm.trans h) (hnoFrame f)
  · exact absurd (hjam (htransmission.symm.trans h)) hrun
  · rcases h with h | h
    · exact absurd (htransmission.symm.trans h) (hnoFrame f)
    · exact absurd (hcompletion.symm.trans h) (by simp)

theorem FrameLaw.no_deferral (hs : FrameLaw s) (hrun : s.control.state ≠ .run) : s.link.deferral = none := by
  obtain ⟨-, -, -, -, -, hdeferral, -⟩ := hs
  cases hd : s.link.deferral with
  | none => rfl
  | some d => exact absurd (hdeferral d hd) hrun

theorem FrameLaw.no_completion (hs : FrameLaw s) (h : s.control.state ≠ .run ∨ s.link.transmission ≠ .idle) :
    s.link.completion = none := by
  obtain ⟨-, -, -, hcompletion, -⟩ := hs
  cases hc : s.link.completion with
  | none => rfl
  | some f => exact absurd (hcompletion f hc) (by tauto)

/-- The station leaves the states outside RUN, or moves among them, with the line as it is. -/
theorem FrameLaw.stateChanged (hs : FrameLaw s) (hrun : s.control.state ≠ .run) (hreset : ResetLaw t)
    (hlink : t.link = s.link) : FrameLaw t :=
  frameLaw_of_not_run hs hrun hreset (by rw [hlink]) (by rw [hlink])
    (by rw [hlink]; exact FrameLaw.no_completion hs (.inl hrun)) (by rw [hlink]; exact FrameLaw.no_deferral hs hrun)

/-! ### Blocks that a frame or a timer reaches -/

theorem setRoster_lineKept (a : Station) (r : RosterEntry) (s : State) : LineKept s (s.setRoster a r) :=
  ⟨rfl, rfl, rfl, rfl, rfl, rfl⟩

theorem raise_takeStep (e : Event) (s : State) : TakeStep s (raise e s) := (raise_voterStep e s).takeStep

theorem reexamineWhere_takeStep (x : CustodyEntry → Bool) (s : State) : TakeStep s (reexamineWhere x s) :=
  (reexamineWhere_triggerStep x s).takeStep

theorem setStanding_lineKept (a : Station) (r : RosterEntry) (s : State) : LineKept s (setStanding a r s) := by
  unfold setStanding
  split
  · exact setRoster_lineKept a r s
  · exact (setRoster_lineKept a r s).trans ((raise_takeStep _ _).trans (reexamineWhere_takeStep _ _)).lineKept

theorem takePresence_lineKept (a : Station) (own : Bool) (d : Word) (ps : List ActedPair) (ns : List WireNotice)
    (s : State) : LineKept s (takePresence a own d ps ns s) := by
  have hdigest : LineKept s (compareDigest a d s) := by
    unfold compareDigest
    split <;> exact setStanding_lineKept a _ s
  unfold takePresence
  split
  · exact (takeStatements_takeStep a ps ns s).lineKept
  · extract_lets s1
    split
    · exact hdigest.trans (takeStatements_takeStep a ps ns s1).lineKept
    · exact hdigest

theorem dispatchFrame_lineKept (f : Frame) (own : Bool) (s : State) : LineKept s (dispatchFrame f own s) := by
  unfold dispatchFrame
  split
  · exact takePresence_lineKept _ _ _ _ _ s
  · exact (foldl_rel .refl .trans (fun s r => takePointRecord_takeStep f.sender s r) _ s).lineKept
  · exact (foldl_rel .refl .trans (fun s r => takeClaimRecord_takeStep f.sender s r) _ s).lineKept
  · exact (foldl_rel .refl .trans (fun s r => takeYieldRecord_takeStep f.sender s r) _ s).lineKept
  · exact (foldl_rel .refl .trans (fun s b => (takeReclaimPoint_triggerStep f.sender s b).takeStep) _ s).lineKept
  · exact (takeTrip_voterStep f.sender own _ _ s).takeStep.lineKept

theorem noteHeard_lineKept (f : Frame) (own : Bool) (s : State) : LineKept s (noteHeard f own s) := by
  unfold noteHeard
  split
  · exact .refl s
  · split
    · exact .refl s
    all_goals exact setRoster_lineKept _ _ s

theorem setAnchor_lineKept (f : Frame) (s : State) : LineKept s (setAnchor f s) := by
  unfold setAnchor
  split <;> exact ⟨rfl, rfl, rfl, rfl, rfl, rfl⟩

theorem takeBytes_lineKept (bs : List Byte) (own : Bool) (s : State) : LineKept s (takeBytes bs own s) := by
  unfold takeBytes
  split
  next f _ =>
    unfold takeFrame
    extract_lets s1
    have h1 : LineKept s s1 := setAnchor_lineKept f s
    split
    · exact h1.trans (raise_takeStep _ _).lineKept
    · split
      · exact (h1.trans (noteHeard_lineKept f own s1)).trans (dispatchFrame_lineKept f own _)
      · exact h1
  next => exact ⟨rfl, rfl, rfl, rfl, rfl, rfl⟩

theorem endOwnEpisode_lineKept (s : State) : LineKept s (endOwnEpisode s) := ⟨rfl, rfl, rfl, rfl, rfl, rfl⟩

theorem endIgnoring_lineKept (s : State) : LineKept s (endIgnoring s) := ⟨rfl, rfl, rfl, rfl, rfl, rfl⟩

/-- The frame heard back ends on the link, and its completion is to come (R132, R140). -/
theorem endHeardFrame_frameLaw (hs : FrameLaw s) : FrameLaw (endHeardFrame s) := by
  unfold endHeardFrame
  split
  next f hf =>
    obtain ⟨hreset, -, hframe, -, -, hdeferral, hfirst⟩ := hs
    refine ⟨hreset, rfl, by simp, fun g hg => ⟨hframe f hf, rfl⟩, by simp, hdeferral, fun h => ?_⟩
    obtain ⟨hclass, hpresence⟩ := hfirst h
    refine ⟨hclass, fun g hg => ?_⟩
    obtain rfl : f = g := by simpa using hg
    exact hpresence f (.inl hf)
  all_goals exact hs

theorem receiveFrame_frameLaw (bs : List Byte) (hs : FrameLaw s) : FrameLaw (receiveFrame bs s) := by
  obtain ⟨-, he⟩ | ⟨-, -, he⟩ | ⟨-, -, -, ⟨-, he⟩ | ⟨-, he⟩⟩ | ⟨-, -, -, he⟩ := receiveFrame_cases bs s
  · rw [he]; exact hs
  · rw [he]; exact (endIgnoring_lineKept s).frameLaw hs
  · rw [he]; exact hs
  · rw [he]; exact (takeBytes_lineKept bs true _).frameLaw (endHeardFrame_frameLaw hs)
  · rw [he]; exact ((endOwnEpisode_lineKept s).trans (takeBytes_lineKept bs _ _)).frameLaw hs

theorem receiveOther_frameLaw {effect : State → State} (heffect : ∀ s, LineKept s (effect s)) (hs : FrameLaw s) :
    FrameLaw (receiveOther effect s) := by
  have hreject : ∀ s, LineKept s (rejectFrame s) := fun s => ⟨rfl, rfl, rfl, rfl, rfl, rfl⟩
  obtain ⟨-, he⟩ | ⟨-, -, he⟩ | ⟨-, -, -, he⟩ | ⟨-, -, -, -, he⟩ | ⟨-, -, -, -, he⟩ := receiveOther_cases effect s
  · rw [he]; exact hs
  · rw [he]; exact (endIgnoring_lineKept s).frameLaw hs
  · rw [he]; exact hs
  · rw [he]; exact (endOwnEpisode_lineKept s).frameLaw hs
  · rw [he]; exact (((endOwnEpisode_lineKept s).trans (hreject _)).trans (heffect _)).frameLaw hs

/-! ### Idle events and wins (R135 to R139) -/

/-- A deferral placed: in RUN alone, and before the first PRESENCE for BACKGROUND alone. -/
theorem withDeferral_frameLaw {d : Option Deferral} (hs : FrameLaw s) (hrun : ∀ x, d = some x → s.control.state = .run)
    (hclass : s.roster.firstPresence = false → ∀ x, d = some x → x.linkClass = .background) :
    FrameLaw (s.withDeferral d) := by
  obtain ⟨hreset, hltxen, hframe, hcompletion, hjam, -, hfirst⟩ := hs
  exact ⟨hreset, hltxen, hframe, hcompletion, hjam, hrun, fun h => ⟨hclass h, (hfirst h).2⟩⟩

theorem offeredClass_of_no_presence (h : s.roster.firstPresence = false) {x : LinkClass} (hx : offeredClass s = some x) :
    x = .background := by
  unfold offeredClass at hx
  simp only [h, Bool.false_eq_true, if_false] at hx
  split at hx
  · exact (Option.some.inj hx).symm
  · cases hx

theorem idleEvent_frameLaw (hs : FrameLaw s) : FrameLaw (idleEvent s) := by
  unfold idleEvent
  split
  · extract_lets s1
    have h1 : LineKept s s1 := (endOwnEpisode_lineKept s).trans (endIgnoring_lineKept _)
    refine withDeferral_frameLaw (h1.frameLaw hs) (fun x hx => ?_) fun hfirst x hx => ?_
    · split at hx
      next hrun => rw [h1.control]; exact hrun
      next => cases hx
    · split at hx
      · obtain ⟨k, hk, rfl⟩ := Option.map_eq_some_iff.mp hx
        exact offeredClass_of_no_presence (h1.firstPresence ▸ hfirst) hk
      · cases hx
  · exact hs

/-- A frame begun in RUN at a station that sends nothing and awaits no completion (R139). -/
theorem beginFrame_frameLaw (hs : FrameLaw s) (hrun : s.control.state = .run) (hcompletion : s.link.completion = none)
    (hpresence : s.roster.firstPresence = false → isPresence p = true) : FrameLaw (beginFrame p s) := by
  obtain ⟨hreset, -, -, -, -, hdeferral, hfirst⟩ := hs
  refine ⟨hreset, rfl, fun _ _ => hrun, fun g hg => ?_, by simp [beginFrame], hdeferral, fun h => ⟨(hfirst h).1, fun g hg => ?_⟩⟩
  · exact absurd (hcompletion.symm.trans hg) (by simp)
  · rcases hg with hg | hg
    · obtain rfl : _ = g := by simpa [beginFrame] using hg
      exact hpresence h
    · exact absurd (hcompletion.symm.trans hg) (by simp)

theorem departure_takeStep (s : State) : TakeStep s (departure s) :=
  (reofferTripped_voterStep s).takeStep.trans (reofferCustody_triggerStep _).takeStep

theorem setCustody_takeStep (i : Input) (x : CustodyEntry) (s : State) : TakeStep s (s.setCustody i x) :=
  (setCustody_triggerStep i x s).takeStep

theorem setCustody_reportLimit_takeStep (i : Input) (x : CustodyEntry) (s : State) :
    TakeStep s (reportLimit i (s.setCustody i x)) :=
  (setCustody_takeStep i x s).trans (reportLimit_triggerStep i _).takeStep

theorem claimPoint_takeStep (x : State × List CustodyRecord) (p : Point) : TakeStep x.1 (claimPoint x p).1 := by
  unfold claimPoint
  extract_lets s
  split
  · split
    · split
      · split
        · split
          · exact setCustody_reportLimit_takeStep _ _ s
          · exact setCustody_takeStep _ _ s
        · exact setCustody_takeStep _ _ s
      · exact .refl s
    · exact .refl s
  · exact .refl s

theorem reclaimPoint_takeStep (x : State × List Byte) (p : Point) : TakeStep x.1 (reclaimPoint x p).1 := by
  unfold reclaimPoint
  extract_lets s
  split
  · split
    · split
      · split
        · split
          · exact setCustody_reportLimit_takeStep _ _ s
          · exact .refl s
        · exact setCustody_takeStep _ _ s
      · exact .refl s
    · exact .refl s
  · exact .refl s

theorem yieldPoint_takeStep (x : State × List CustodyRecord) (p : Point) : TakeStep x.1 (yieldPoint x p).1 := by
  unfold yieldPoint
  extract_lets s
  split
  · split
    · split
      · split
        · split
          · exact setCustody_reportLimit_takeStep _ _ s
          · exact .refl s
        · exact setCustody_takeStep _ _ s
      · exact .refl s
    · exact .refl s
  · exact .refl s

theorem assemble_takeStep {α : Type} {f : State × List α → Point → State × List α}
    (h : ∀ x p, TakeStep x.1 (f x p).1) (s : State) : TakeStep s ((List.finRange 64).foldl f (s, [])).1 :=
  foldl_rel (R := fun (x y : State × List α) => TakeStep x.1 y.1) (fun x => .refl x.1) .trans h _ (s, [])

theorem assembleRequest_takeStep (r : Request) (s : State) : TakeStep s (assembleRequest r s).1 := by
  unfold assembleRequest
  split
  · dsimp only [assembleClaim]
    exact assemble_takeStep claimPoint_takeStep s
  · dsimp only [assembleReclaim]
    exact assemble_takeStep reclaimPoint_takeStep s
  · dsimp only [assembleYield]
    exact assemble_takeStep yieldPoint_takeStep s
  · exact .refl s
  · extract_lets d r
    split
    · exact .refl s
    · split
      · exact raise_takeStep _ s
      · split
        · exact raise_takeStep _ s
        · exact .refl s

theorem setPub_takeStep (p : Point) (r : PubRecord) (s : State) : TakeStep s (s.setPub p r) := by constructor <;> rfl

theorem assemblePoint_takeStep (s : State) : TakeStep s (assemblePoint s).1 := by
  unfold assemblePoint
  extract_lets ps
  split
  · exact .refl s
  · exact foldl_rel .refl .trans (fun s p => setPub_takeStep p _ s) ps s

/-- A win's assembly leaves the line, and its frame begins, or its request is withdrawn. -/
theorem sendOrWithdraw_frameLaw {withdraw : State → State} {x : State × Option Payload} (hs : FrameLaw s)
    (hrun : s.control.state = .run) (hcompletion : s.link.completion = none) (hx : LineKept s x.1)
    (hw : ∀ t, LineKept t (withdraw t)) (hpresence : s.roster.firstPresence = false → ∀ p, x.2 = some p → isPresence p = true) :
    FrameLaw (sendOrWithdraw withdraw x) := by
  unfold sendOrWithdraw
  split
  next p hp =>
    refine beginFrame_frameLaw (hx.frameLaw hs) (hx.control ▸ hrun) (hx.completion.trans hcompletion) fun h => ?_
    exact hpresence (hx.firstPresence ▸ h) p hp
  next => exact (hx.trans (hw x.1)).frameLaw hs

theorem winClass_frameLaw {k : LinkClass} (hs : FrameLaw s) (hrun : s.control.state = .run)
    (hcompletion : s.link.completion = none) (hclass : s.roster.firstPresence = false → k = .background) :
    FrameLaw (winClass k s) := by
  unfold winClass
  split
  · have hno : s.roster.firstPresence = false → ∀ {P : Prop}, P := fun h => absurd (hclass h) (by simp)
    split
    · exact hs
    · exact sendOrWithdraw_frameLaw hs hrun hcompletion (assembleRequest_takeStep _ s).lineKept
        (fun t => ((withUrgent_voterStep _ t).takeStep.trans (departure_takeStep _)).lineKept) fun h => hno h
  · exact sendOrWithdraw_frameLaw hs hrun hcompletion (assemblePoint_takeStep s).lineKept .refl
      fun h => absurd (hclass h) (by simp)
  · refine sendOrWithdraw_frameLaw hs hrun hcompletion ⟨rfl, rfl, rfl, rfl, rfl, rfl⟩ .refl fun _ p hp => ?_
    obtain rfl := Option.some.inj hp
    rfl

theorem winSlot_frameLaw (hs : FrameLaw s) : FrameLaw (winSlot s) := by
  unfold winSlot
  split
  next h =>
    simp only [Bool.and_eq_true, beq_iff_eq, Link.free_iff] at h
    obtain ⟨⟨-, hrun⟩, -, hcompletion⟩ := h
    split
    next d hd =>
      obtain ⟨-, -, -, -, -, -, hfirst⟩ := id hs
      exact winClass_frameLaw (withDeferral_frameLaw hs (by simp) (by simp)) hrun hcompletion fun h => (hfirst h).1 d hd
    next => exact hs
  next => exact hs

/-! ### The end of the station's own frame (R132, R140 to R142) -/

theorem publishedPoint_takeStep (s : State) (p : Point) : TakeStep s (publishedPoint s p) := by
  unfold publishedPoint
  extract_lets r s1
  split
  · split <;> constructor <;> rfl
  · exact .refl s

/-- The owning block leaves the line as it is, but for the first-presence mark that a PRESENCE sets (R123). -/
theorem completeOwner_frameLaw (p : Payload) (hs : FrameLaw s) : FrameLaw (completeOwner p s) := by
  have hmap : ∀ (f : State → Point → State), (∀ s p, TakeStep s (f s p)) → ∀ l : List Point, FrameLaw (l.foldl f s) := fun f hf l =>
    (foldl_rel .refl .trans hf l s).lineKept.frameLaw hs
  unfold completeOwner
  split
  · exact hmap claimCompleted (fun s p => mapCustody_takeStep p _ s) _
  · exact hmap reclaimCompleted (fun s p => mapCustody_takeStep p _ s) _
  · exact hmap yieldCompleted (fun s p => mapCustody_takeStep p _ s) _
  · exact hmap publishedPoint publishedPoint_takeStep _
  · obtain ⟨hreset, hltxen, hframe, hcompletion, hjam, hdeferral, -⟩ := hs
    exact ⟨hreset, hltxen, hframe, hcompletion, hjam, hdeferral, fun h => by cases h⟩
  · exact hs

theorem completeRequest_lineKept (p : Payload) (s : State) : LineKept s (completeRequest p s) := by
  unfold completeRequest
  split
  · exact ((withUrgent_voterStep _ s).takeStep.trans (departure_takeStep _)).lineKept
  · exact .refl s

theorem reportCompletion_frameLaw {l : Link} (hs : FrameLaw { s with link := { l with failures := 0 } }) :
    FrameLaw (reportCompletion f l s) :=
  (completeRequest_lineKept _ _).frameLaw (completeOwner_frameLaw _ hs)

theorem completeFrame_frameLaw (hs : FrameLaw s) : FrameLaw (completeFrame s) := by
  obtain ⟨f, hf, he⟩ | ⟨f, hidle, hf, he⟩ | ⟨-, -, he⟩ := completeFrame_cases s
  · rw [he]
    have hnone := FrameLaw.no_completion hs (.inr (by simp [hf]))
    obtain ⟨hreset, -, -, -, -, hdeferral, hfirst⟩ := hs
    refine reportCompletion_frameLaw ⟨hreset, rfl, by simp, by simp [hnone], by simp, hdeferral, fun h => ⟨(hfirst h).1, ?_⟩⟩
    simp [hnone]
  · rw [he]
    obtain ⟨hreset, hltxen, -, -, -, hdeferral, hfirst⟩ := hs
    refine reportCompletion_frameLaw ⟨hreset, hltxen, by simp [hidle], by simp, by simp [hidle], hdeferral,
      fun h => ⟨(hfirst h).1, by simp [hidle]⟩⟩
  · rw [he]; exact hs

theorem collideFrame_frameLaw (hs : FrameLaw s) : FrameLaw (collideFrame s) := by
  have howner : ∀ (p : Payload) (s : State), TakeStep s (collideOwner p s) := fun p s => by
    unfold collideOwner
    split
    · exact foldl_rel .refl .trans (fun s p => setPub_takeStep p _ s) _ s
    all_goals exact .refl s
  unfold collideFrame
  split
  next f hf =>
    refine (howner _ _).lineKept.frameLaw ?_
    have hnone := FrameLaw.no_completion hs (.inr (by simp [hf]))
    obtain ⟨hreset, hltxen, hframe, -, -, hdeferral, hfirst⟩ := hs
    rw [hf] at hltxen
    exact ⟨hreset, hltxen, by simp [resetAnchors], by simp [resetAnchors, hnone], fun _ => hframe f hf, hdeferral,
      fun h => ⟨(hfirst h).1, by simp [resetAnchors, hnone]⟩⟩
  all_goals exact hs

/-- The line released after a jam (R141, R143). -/
theorem releaseLine_frameLaw (hs : FrameLaw s) (hnone : s.link.completion = none) : FrameLaw (releaseLine s) := by
  obtain ⟨hreset, -, -, -, -, hdeferral, hfirst⟩ := hs
  exact ⟨hreset, rfl, by simp [releaseLine], by simp [releaseLine, hnone], by simp [releaseLine], hdeferral,
    fun h => ⟨(hfirst h).1, by simp [releaseLine, hnone]⟩⟩

theorem isolate_frameLaw (hs : FrameLaw s) (hrun : s.control.state = .run) (hidle : s.link.transmission = .idle)
    (hnone : s.link.completion = none) : FrameLaw (isolate s) := by
  obtain ⟨hreset, hltxen, -⟩ := hs
  have hlink : (isolate s).link = { s.link with deferral := none } := by simp [isolate]
  have hrst : (isolate s).control.rstAsserted = s.control.rstAsserted := by simp [isolate]
  refine ⟨fun h => ?_, ?_, ?_, ?_, ?_, ?_, fun _ => ⟨?_, ?_⟩⟩
  · exact absurd ((hreset (hrst ▸ h)).symm.trans hrun) (by simp)
  · rw [hlink]; exact hltxen
  all_goals simp [hlink, hidle, hnone]

theorem endJam_frameLaw (hs : FrameLaw s) : FrameLaw (endJam s) := by
  have hmark : ∀ s, LineKept s (markJammed s) := fun s => ⟨rfl, rfl, rfl, rfl, rfl, rfl⟩
  unfold endJam
  split
  next hjam =>
    have hnone := FrameLaw.no_completion hs (.inr (by simp [hjam]))
    have h1 : FrameLaw (markJammed (releaseLine s)) := (hmark _).frameLaw (releaseLine_frameLaw hs hnone)
    extract_lets s1
    split
    next h => exact isolate_frameLaw h1 h.1 rfl hnone
    next => exact h1
  next hjam => exact releaseLine_frameLaw hs (FrameLaw.no_completion hs (.inr (by simp [hjam])))
  all_goals exact hs

/-! ### The station state, the resets and the local time -/

theorem stopHoldoffs_takeStep (s : State) : TakeStep s (stopHoldoffs s) := (withTable_triggerStep _ s).takeStep

theorem listenExpired_frameLaw (hs : FrameLaw s) : FrameLaw (listenExpired s) := by
  unfold listenExpired
  split
  next h =>
    simp only [Bool.and_eq_true, Bool.not_eq_true', beq_iff_eq] at h
    obtain ⟨⟨hrst, hlisten⟩, -⟩ := h
    extract_lets old s1
    have hrest := (stopHoldoffs_takeStep (startPresence s1)).trans (reexamineWhere_takeStep (fun _ => true) _)
    refine hrest.lineKept.frameLaw (FrameLaw.stateChanged hs (by simp [hlisten]) (fun h => ?_) ?_)
    · have hcontrol : (startPresence s1).control = { s.control with state := .run, listen := .stopped } :=
        raise_control _ _
      rw [hcontrol] at h
      exact absurd (hrst.symm.trans h) (by simp)
    · exact raise_link _ _
  next => exact hs

theorem isolationExpired_frameLaw (hs : FrameLaw s) : FrameLaw (isolationExpired s) := by
  unfold isolationExpired
  split
  next h =>
    simp only [Bool.and_eq_true, Bool.not_eq_true', beq_iff_eq] at h
    obtain ⟨⟨hrst, hisolated⟩, -⟩ := h
    extract_lets old s1
    refine FrameLaw.stateChanged hs (by simp [hisolated]) (fun h => ?_) (raise_link _ _)
    have hcontrol : s1.control = { s.control with isolation := .stopped } := raise_control _ _
    have h : s1.control.rstAsserted = true := h
    rw [hcontrol] at h
    exact absurd (hrst.symm.trans h) (by simp)
  next => exact hs

theorem validationCompletes_frameLaw (carrier : Bool) (hs : FrameLaw s) : FrameLaw (validationCompletes carrier s) := by
  unfold validationCompletes
  split
  next h =>
    simp only [Bool.and_eq_true, Bool.not_eq_true', beq_iff_eq] at h
    obtain ⟨hrst, hvalidating⟩ := h
    have hnot : s.control.state ≠ .run := by simp [hvalidating]
    split
    · exact (firstEvaluation_voterStep _).takeStep.lineKept.frameLaw
        (frameLaw_of_not_run hs hnot (initialForm_resetLaw hrst carrier) rfl rfl rfl rfl)
    · exact FrameLaw.stateChanged hs hnot (fun _ => rfl) rfl
  next => exact hs

theorem blank_frameLaw {x : StationController} {y : SampleInterface} {tr : Transmission} {lt : Bool} {port : Port}
    {q : List Instr} (hconfig : x.state = .config) (hlt : lt = (tr != .idle)) (htr : tr = .idle ∨ tr = .resetJam) :
    FrameLaw (blank x y tr lt port q) := by
  have hcompletion : (blank x y tr lt port q).link.completion = none := rfl
  have hdeferral : (blank x y tr lt port q).link.deferral = none := rfl
  have htransmission : (blank x y tr lt port q).link.transmission = tr := rfl
  refine ⟨fun _ => hconfig, hlt, ?_, ?_, ?_, ?_, fun _ => ⟨?_, ?_⟩⟩
  all_goals rcases htr with rfl | rfl <;> simp [hcompletion, hdeferral, htransmission]

theorem restartStation_frameLaw (sfsHigh : Bool) (s : State) : FrameLaw ((restartStation sfsHigh s).answer [0x00]) := by
  refine blank_frameLaw (x := (restartStation sfsHigh s).control) rfl rfl ?_
  cases s.link.transmission <;> simp [cutTransmission]

theorem releaseReset_frameLaw (sfsHigh mcsnLow : Bool) (hs : FrameLaw s) : FrameLaw (releaseReset sfsHigh mcsnLow s) := by
  unfold releaseReset
  split
  next hrst =>
    exact FrameLaw.stateChanged hs (by simp [hs.1 hrst]) (fun h => by cases h) rfl
  next => exact hs

theorem tick_frameLaw (hs : FrameLaw s) : FrameLaw (tick s) :=
  tick_keeps (fun ha hs => by rw [tick_of_active ha]; exact hs) hs

/-! ### Samples, expiries and host commands -/

theorem sampleEnds_lineKept (bits : List Bool) (s : State) : LineKept s (sampleEnds bits s) := by
  have htake : ∀ (i : Input) (p : Point) (w : SampleWord), LineKept s (takeSample i p w s) := fun i p w => by
    unfold takeSample
    extract_lets c0 c s1 s2
    have h1 : LineKept s s1 := ⟨rfl, rfl, rfl, rfl, rfl, rfl⟩
    have h2 : LineKept s s2 := by
      by_cases hc : c.role = .acting
      · rw [show s2 = _ from if_pos hc]
        exact h1.trans (contentWrite_writeStep p _ _ _ s1).takeStep.lineKept
      · rw [show s2 = s1 from if_neg hc]
        exact h1
    split
    · exact h2.trans (reexamine_triggerStep i s2).takeStep.lineKept
    · exact h2
  unfold sampleEnds judgeSample routeSample
  split
  · exact .refl s
  · split
    · exact ⟨rfl, rfl, rfl, rfl, rfl, rfl⟩
    · split
      · split
        · exact .refl s
        · split
          · exact (raise_takeStep _ s).lineKept
          · split
            · exact (raise_takeStep _ s).lineKept
            · split
              · exact (raise_takeStep _ s).lineKept
              · exact htake _ _ _
      · exact .refl s

/-- A timer of a custody entry expires, and its triggers are re-examined. -/
theorem setCustody_reexamine_takeStep (i : Input) (x : CustodyEntry) (s : State) :
    TakeStep s (reexamine i (s.setCustody i x)) :=
  (setCustody_takeStep i x s).trans (reexamine_triggerStep i _).takeStep

theorem claimRetryExpired_lineKept (i : Input) (s : State) : LineKept s (claimRetryExpired i s) := by
  unfold claimRetryExpired
  split
  · split
    · exact (setCustody_reexamine_takeStep i _ s).lineKept
    · exact .refl s
  · exact .refl s

theorem holdoffExpired_lineKept (i : Input) (s : State) : LineKept s (holdoffExpired i s) := by
  unfold holdoffExpired
  split
  · split
    · exact (setCustody_reexamine_takeStep i _ s).lineKept
    · exact .refl s
  · exact .refl s

theorem reclaimWaitExpired_lineKept (i : Input) (s : State) : LineKept s (reclaimWaitExpired i s) := by
  unfold reclaimWaitExpired
  split
  · split
    · split
      · exact (((setCustody_takeStep i _ s).trans (raise_takeStep _ _)).trans
          (reexamine_triggerStep i _).takeStep).lineKept
      · exact (setCustody_reexamine_takeStep i _ s).lineKept
    · exact .refl s
  · exact .refl s

theorem refreshExpiry_lineKept (p : Point) (s : State) : LineKept s (refreshExpiry p s) := by
  unfold refreshExpiry
  extract_lets r
  split
  · exact ((setPub_takeStep p _ s).trans (makeDue_publisherStep p _).takeStep).lineKept
  · exact .refl s

theorem silenceExpired_lineKept (a : Station) (s : State) : LineKept s (silenceExpired a s) := by
  unfold silenceExpired
  extract_lets r
  split
  · exact setStanding_lineKept a _ s
  · exact .refl s

theorem presenceExpired_lineKept (s : State) : LineKept s (presenceExpired s) := by
  unfold presenceExpired
  split
  · exact ⟨rfl, rfl, rfl, rfl, rfl, rfl⟩
  · exact .refl s

theorem hostCommand_frameLaw {g : State → State} (hs : FrameLaw s)
    (hg : s.control.rstAsserted = false → FrameLaw (g s)) : FrameLaw (hostCommand g s) := by
  obtain ⟨-, he⟩ | ⟨-, -, he⟩ | ⟨hrst, -, he⟩ := hostCommand_cases g s
  · rw [he]; exact hs
  · rw [he]; exact hs
  · rw [he]; exact hg hrst

theorem hostCommand_frameLaw_of_lineKept {g : State → State} (hs : FrameLaw s) (hg : LineKept s (g s)) :
    FrameLaw (hostCommand g s) := hostCommand_frameLaw hs fun _ => hg.frameLaw hs

theorem answer_lineKept (bytes : List Byte) (s : State) : LineKept s (s.answer bytes) := ⟨rfl, rfl, rfl, rfl, rfl, rfl⟩

theorem inRuntime_lineKept {α : Type} {arg : Option α} {g : α → State → State} (h : ∀ a, LineKept s (g a s)) :
    LineKept s (inRuntime arg g s) := by
  unfold inRuntime
  split
  · split
    · exact h _
    · exact answer_lineKept _ s
  · exact answer_lineKept _ s

theorem writeImage_frameLaw (off : Half) (data : List Byte) (hs : FrameLaw s) : FrameLaw (writeImage off data s) := by
  unfold writeImage
  split
  next hconfig =>
    split
    · exact (answer_lineKept _ _).frameLaw (FrameLaw.stateChanged hs (by simp [hconfig]) (fun _ => hconfig) rfl)
    · exact (answer_lineKept _ s).frameLaw hs
  all_goals exact (answer_lineKept _ s).frameLaw hs

theorem startStation_frameLaw (hs : FrameLaw s) (hrst : s.control.rstAsserted = false) : FrameLaw (startStation s) := by
  unfold startStation
  split
  next hconfig =>
    split
    · exact (answer_lineKept _ _).frameLaw (FrameLaw.stateChanged hs (by simp [hconfig])
        (fun h => absurd (hrst.symm.trans h) (by simp)) rfl)
    · exact (answer_lineKept _ _).frameLaw (FrameLaw.stateChanged hs (by simp [hconfig]) (fun _ => hconfig) rfl)
  all_goals exact (answer_lineKept _ s).frameLaw hs

theorem popEvent_lineKept (s : State) : LineKept s (popEvent s) := by
  unfold popEvent
  split <;> exact ⟨rfl, rfl, rfl, rfl, rfl, rfl⟩

theorem clearLatchCommand_lineKept (b : Byte) (s : State) : LineKept s (clearLatchCommand b s) := by
  refine inRuntime_lineKept fun p => ?_
  split <;> exact ⟨rfl, rfl, rfl, rfl, rfl, rfl⟩

theorem releaseCommand_lineKept (b : Byte) (s : State) : LineKept s (releaseCommand b s) := by
  unfold releaseCommand releaseGroup
  split
  · split
    · extract_lets d r
      repeat' split
      all_goals exact ⟨rfl, rfl, rfl, rfl, rfl, rfl⟩
    · exact answer_lineKept _ s
  · exact answer_lineKept _ s

theorem reclaimCommand_lineKept (s : State) : LineKept s (reclaimCommand s) := by
  unfold reclaimCommand
  split
  · exact ((withTable_triggerStep _ s).takeStep.trans (reexamineWhere_takeStep _ _)).lineKept.trans
      (answer_lineKept _ _)
  · exact answer_lineKept _ s

/-- Every command keeps the line law. -/
theorem exec_frameLaw (c : Instr) (hs : FrameLaw s) : ∀ {t}, exec c s = .next t → FrameLaw t := by
  suffices h : ∃ t, exec c s = .next t ∧ FrameLaw t by
    intro u hu
    obtain ⟨t, ht, hlaw⟩ := h
    rw [ht] at hu
    cases hu
    exact hlaw
  have kept : ∀ {t}, LineKept s t → FrameLaw t := fun h => h.frameLaw hs
  cases c with
  | powerUp a b => exact ⟨_, rfl, blank_frameLaw (x := { StationController.powerUpForm with }) rfl rfl (.inl rfl)⟩
  | rstnAsserted =>
    exact ⟨_, rfl, blank_frameLaw (x := { StationController.powerUpForm with rstAsserted := true }) rfl rfl (.inl rfl)⟩
  | rstnReleased a b => exact ⟨_, rfl, releaseReset_frameLaw a b hs⟩
  | sampleArrival bits => exact ⟨_, rfl, kept (sampleEnds_lineKept bits s)⟩
  | pointFrame bytes => exact ⟨_, rfl, receiveFrame_frameLaw bytes hs⟩
  | claimFrame bytes => exact ⟨_, rfl, receiveFrame_frameLaw bytes hs⟩
  | yieldFrame bytes => exact ⟨_, rfl, receiveFrame_frameLaw bytes hs⟩
  | reclaimFrame bytes => exact ⟨_, rfl, receiveFrame_frameLaw bytes hs⟩
  | trippedFrame bytes => exact ⟨_, rfl, receiveFrame_frameLaw bytes hs⟩
  | releaseFrame bytes => exact ⟨_, rfl, receiveFrame_frameLaw bytes hs⟩
  | presenceFrame bytes => exact ⟨_, rfl, receiveFrame_frameLaw bytes hs⟩
  | badFrame bytes => exact ⟨_, rfl, receiveFrame_frameLaw bytes hs⟩
  | jam => exact ⟨_, rfl, receiveOther_frameLaw (fun _ => ⟨rfl, rfl, rfl, rfl, rfl, rfl⟩) hs⟩
  | truncatedFrame => exact ⟨_, rfl, receiveOther_frameLaw .refl hs⟩
  | idleEvent => exact ⟨_, rfl, idleEvent_frameLaw hs⟩
  | carrierSeen => exact ⟨_, rfl, withDeferral_frameLaw hs (by simp) (by simp)⟩
  | win => exact ⟨_, rfl, winSlot_frameLaw hs⟩
  | completion => exact ⟨_, rfl, completeFrame_frameLaw hs⟩
  | collision => exact ⟨_, rfl, collideFrame_frameLaw hs⟩
  | jamEnd => exact ⟨_, rfl, endJam_frameLaw hs⟩
  | freshnessExpiry p => exact ⟨_, rfl, kept (freshnessExpired_writeStep p s).takeStep.lineKept⟩
  | confirmTimerExpiry g => exact ⟨_, rfl, kept (confirmExpiry_voterStep g s).takeStep.lineKept⟩
  | refreshTimerExpiry p => exact ⟨_, rfl, kept (refreshExpiry_lineKept p s)⟩
  | claimRetryExpiry i => exact ⟨_, rfl, kept (claimRetryExpired_lineKept i s)⟩
  | reclaimWaitExpiry i => exact ⟨_, rfl, kept (reclaimWaitExpired_lineKept i s)⟩
  | holdoffExpiry i => exact ⟨_, rfl, kept (holdoffExpired_lineKept i s)⟩
  | silenceTimerExpiry a => exact ⟨_, rfl, kept (silenceExpired_lineKept a s)⟩
  | presenceTimerExpiry => exact ⟨_, rfl, kept (presenceExpired_lineKept s)⟩
  | listenTimerExpiry => exact ⟨_, rfl, listenExpired_frameLaw hs⟩
  | isolationHoldExpiry => exact ⟨_, rfl, isolationExpired_frameLaw hs⟩
  | validationCompletion carrier => exact ⟨_, rfl, validationCompletes_frameLaw carrier hs⟩
  | writeImage offset data => exact ⟨_, rfl, hostCommand_frameLaw hs fun _ => writeImage_frameLaw offset data hs⟩
  | readImage offset count =>
    refine ⟨_, rfl, hostCommand_frameLaw_of_lineKept hs ?_⟩
    unfold readImage
    split <;> exact answer_lineKept _ s
  | start => exact ⟨_, rfl, hostCommand_frameLaw hs (startStation_frameLaw hs)⟩
  | restart sfsHigh => exact ⟨_, rfl, hostCommand_frameLaw hs fun _ => restartStation_frameLaw sfsHigh s⟩
  | readStatus => exact ⟨_, rfl, hostCommand_frameLaw_of_lineKept hs ⟨rfl, rfl, rfl, rfl, rfl, rfl⟩⟩
  | readPoint b => exact ⟨_, rfl, hostCommand_frameLaw_of_lineKept hs (inRuntime_lineKept fun _ => answer_lineKept _ s)⟩
  | readGroup b => exact ⟨_, rfl, hostCommand_frameLaw_of_lineKept hs (inRuntime_lineKept fun _ => answer_lineKept _ s)⟩
  | readRoster b => exact ⟨_, rfl, hostCommand_frameLaw_of_lineKept hs (inRuntime_lineKept fun _ => answer_lineKept _ s)⟩
  | popEvent => exact ⟨_, rfl, hostCommand_frameLaw_of_lineKept hs (popEvent_lineKept s)⟩
  | clearLatch b => exact ⟨_, rfl, hostCommand_frameLaw_of_lineKept hs (clearLatchCommand_lineKept b s)⟩
  | release b => exact ⟨_, rfl, hostCommand_frameLaw_of_lineKept hs (releaseCommand_lineKept b s)⟩
  | reclaim => exact ⟨_, rfl, hostCommand_frameLaw_of_lineKept hs (reclaimCommand_lineKept s)⟩
  | unknownCommandByte b =>
    refine ⟨_, rfl, hostCommand_frameLaw_of_lineKept hs ?_⟩
    unfold unknownCommand
    split
    · exact .refl s
    · exact answer_lineKept _ s
  | partialCommandDiscarded => exact ⟨_, rfl, hostCommand_frameLaw_of_lineKept hs ⟨rfl, rfl, rfl, rfl, rfl, rfl⟩⟩
  | localTimeTick => exact ⟨_, rfl, tick_frameLaw hs⟩

theorem kept_frameLaw : Kept FrameLaw := by
  intro s t hs hstep
  unfold step at hstep
  split at hstep
  · cases hstep
    exact hs
  next c rest _ => exact exec_frameLaw (s := { s with pending := rest }) c hs hstep

end Sys2Proof.Machine

end

section

namespace Sys2Proof.Proofs

open Sys2Proof.Machine Sys2Proof.Safety

/-- Settles O59: the evaluation of a sample and the loading of a YIELD keep a context within its rules, every content write places
what the publish mode allows, and each command that touches the line keeps its law. -/
theorem contentAndSendingLawsKept : Obligations.ContentAndSendingLawsKept :=
  ⟨kept_contextLaw, kept_contentLaw, kept_frameLaw⟩

end Sys2Proof.Proofs

end

/-! The resets, the command queue and the local time base. -/

section

namespace Sys2Proof.Proofs

open Sys2Proof.Machine Sys2Proof.Safety

/-- Settles O1: both clauses are the two arms of `step`. -/
theorem stepTakesFrontCommand : Obligations.StepTakesFrontCommand := fun _ _ _ => ⟨rfl, rfl⟩

/-- The power-up state is one that a reset leaves, so that the laws of such states hold there. -/
theorem reset_blank : Blank False State.reset State.reset :=
  .mk StationController.powerUpForm { abandoned := false } .idle false { waiting := false, miso := .highImpedance } rfl
    (.inl rfl) (by simp)

/-- Settles O2: the tables of the power-up form are filled with one value each, and every law holds of a state that a reset
leaves. -/
theorem resetState : Obligations.ResetState := by
  refine ⟨rfl, fun _ => rfl, rfl, Table.get_fill _, Table.get_fill _, Table.get_fill _, rfl, Table.get_fill _, rfl, rfl,
    Table.get_fill _, Table.get_fill _, rfl, rfl, rfl, rfl, rfl, rfl, ?_⟩
  obtain ⟨hvote, hstanding, howner, hcontext, hcontent⟩ := reset_blank.runtimeLaws
  exact ⟨reset_blank.resetLaw, hcontext.1, rfl, reset_blank.urgentLaw, reset_blank.eventLaw, reset_blank.timeLaw,
    reset_blank.noticeLaw, reset_blank.publishLaw, reset_blank.lineLaw, reset_blank.roleLaw, reset_blank.groupLaw, hvote,
    hstanding, howner, hcontext, hcontent, reset_blank.rosterLaw, reset_blank.custodyLaw,
    blank_frameLaw (x := StationController.powerUpForm) rfl rfl (.inl rfl), reset_blank.countLaw⟩

/-- Under RSTn no custody entry exists whose timer could expire. -/
theorem heldInReset_custody (q : List Instr) (i : Input) : (heldInReset q).custody.table.get i = none :=
  Table.get_fill _ i

/-- Every command but the resets finds its guard false under RSTn (R146). -/
theorem exec_heldInReset (q : List Instr) (c : Instr) (hpower : ∀ a b, c ≠ .powerUp a b)
    (hreleased : ∀ a b, c ≠ .rstnReleased a b) : exec c (heldInReset q) = .next (heldInReset q) := by
  cases c with
  | powerUp a b => exact absurd rfl (hpower a b)
  | rstnReleased a b => exact absurd rfl (hreleased a b)
  | claimRetryExpiry i =>
    show Host.Outcome.next (claimRetryExpired i (heldInReset q)) = _
    rw [claimRetryExpired, heldInReset_custody]
  | reclaimWaitExpiry i =>
    show Host.Outcome.next (reclaimWaitExpired i (heldInReset q)) = _
    rw [reclaimWaitExpired, heldInReset_custody]
  | holdoffExpiry i =>
    show Host.Outcome.next (holdoffExpired i (heldInReset q)) = _
    rw [holdoffExpired, heldInReset_custody]
  | _ => rfl

theorem releaseReset_of_held {s : State} (h : s.control.rstAsserted = true) (sfsHigh mcsnLow : Bool) :
    releaseReset sfsHigh mcsnLow s = { s with
      control := { s.control with rstAsserted := false }
      sample := { abandoned := sfsHigh }
      port := { waiting := mcsnLow, miso := .highImpedance } } := if_pos h

theorem releaseReset_of_released {s : State} (h : s.control.rstAsserted = false) (sfsHigh mcsnLow : Bool) :
    releaseReset sfsHigh mcsnLow s = s := if_neg (by simp [h])

/-- Settles O3: the resets give one form whatever the state was, and under RSTn no other command's guard holds. -/
theorem hardwareResets : Obligations.HardwareResets :=
  ⟨fun _ _ _ => rfl, fun _ => rfl, fun _ => rfl, exec_heldInReset,
    fun _ sfsHigh mcsnLow h => congrArg Host.Outcome.next (releaseReset_of_held h sfsHigh mcsnLow),
    fun _ sfsHigh mcsnLow h => congrArg Host.Outcome.next (releaseReset_of_released h sfsHigh mcsnLow)⟩

/-- Settles O4, by what the station is sending as RESTART takes effect. -/
theorem restartKeepsTheImage : Obligations.RestartKeepsTheImage := by
  intro s sfsHigh hready
  show Host.Outcome.next (hostCommand _ s) = _
  rw [hostCommand_of_ready hready, restartStation]
  cases s.link.transmission <;> rfl

/-- Settles O11: the tick's equation at an active station, block by block. -/
theorem tickAdvancesEveryTimer : Obligations.TickAdvancesEveryTimer := by
  refine fun s => ⟨fun h => congrArg Host.Outcome.next (tick_of_inactive h), fun h => ⟨tick s, rfl, ?_⟩,
    fun n => ⟨rfl, rfl, rfl, rfl, rfl⟩⟩
  rw [tick_of_active h]
  exact ⟨rfl, rfl, fun p => Table.get_map _ _ p, fun g => Table.get_map _ _ g, rfl, fun i => Table.get_map _ _ i, rfl,
    fun p => Table.get_map _ _ p, rfl, fun a => Table.get_map _ _ a, rfl, rfl, rfl, rfl, rfl, rfl, rfl, rfl⟩

end Sys2Proof.Proofs

end

/-! The Publisher's due points, the group moves, the trip lines and the Event Queue. -/

section

namespace Sys2Proof.Machine

open Sys2Proof.Safety

/-! ### Due points (R90, R91, R94) -/

theorem beyondDeadband_iff (n : Nat) (ref : Option Half) (v : Half) :
    beyondDeadband n ref v = true ↔ ∀ w, ref = some w → n < (v.toInt - w.toInt).natAbs := by
  cases ref <;> simp [beyondDeadband]

theorem changeDue_iff (d : PointDesc) (r : PubRecord) (q : Quality) (h : Hit) (e : MirrorEntry) :
    changeDue d r q h e = true ↔ (e.hit ≠ h ∧ d.publish ≠ .valueOnly) ∨ e.quality ≠ q ∨
      (d.publish ≠ .hitOnly ∧ e.quality = .good ∧ ∃ v, e.value = some v ∧
        ∀ w, (if r.carried then r.carriedValue else r.lastPublished) = some w →
          d.deadband < (v.toInt - w.toInt).natAbs) := by
  cases hv : e.value <;> simp [changeDue, hv, beyondDeadband_iff, PubRecord.reference, and_assoc, or_assoc]

section

variable {p : Point} {s : State}

theorem makeDue_of_absent (h : p ∉ s.publisher.list) : makeDue p s = s.withPublishList (s.publisher.list ++ [p]) := by
  simp [makeDue, h]

theorem makeDue_of_listed (h : p ∈ s.publisher.list) (hc : (s.publisher.records.get p).carried = false) :
    makeDue p s = s := by
  simp [makeDue, h, hc]

theorem makeDue_of_carried (h : p ∈ s.publisher.list) (hc : (s.publisher.records.get p).carried = true) :
    makeDue p s = s.setPub p { s.publisher.records.get p with changed := true } := by
  simp [makeDue, h, hc]

end

/-! ### Group moves (R52 to R57, R59) -/

theorem announce_of_mem {g : Group} {s : State} (h : Request.tripped g ∈ s.link.urgent) : announce g s = s := by
  rw [announce, offerTo_of_mem h]; rfl

theorem announce_of_room {g : Group} {s : State} (h : Request.tripped g ∉ s.link.urgent) (hroom : s.link.urgent.length < 8) :
    announce g s = s.withUrgent (s.link.urgent ++ [.tripped g]) := by
  rw [announce, offerTo_of_room h hroom]

theorem announce_of_full {g : Group} {s : State} (h : Request.tripped g ∉ s.link.urgent) (hfull : 8 ≤ s.link.urgent.length) :
    announce g s = s.setGroup g { s.voter.groups.get g with announceOwed := true } := by
  rw [announce, offerTo_of_full h hfull]

section

variable {g : Group} {s : State}

theorem place_setGroup (r r' : GroupRecord) : place g r' (s.setGroup g r) = place g r' s := by
  simp [place, setLines, State.setGroup, State.lineLevels, State.active]

theorem enterState_eq_place (st : GroupState) : enterState g st s = place g { s.voter.groups.get g with
    state := st, cause := none, confirm := .stopped, announceOwed := false, stamp := s.events.time } s := rfl

theorem enterArming_eq_place : enterArming g s = place g { s.voter.groups.get g with
    state := .arming, cause := none, confirm := .running (s.groupDesc g).confirm, stamp := s.events.time } s := rfl

/-- A local trip out of another state than FAULT, with its announcement by the room in the urgent queue (R55, R59). -/
theorem enterTripped_tripsLocally (h : (s.voter.groups.get g).state ≠ .fault) :
    tripsLocally g (s.voter.groups.get g) s (enterTripped g .localTrip s) := by
  have heq : enterTripped g .localTrip s =
      (let u := raise (.groupTripped g .localTrip) (place g { s.voter.groups.get g with
        state := .tripped, cause := some .localTrip, confirm := .stopped, stamp := s.events.time } s)
      if (s.groupDesc g).announce then announce g u else u) := by
    simp [enterTripped, h, place, State.setGroup]
  have hlink : ∀ r, (place g r s).link = s.link := fun _ => rfl
  refine ⟨fun ha => ?_, fun ha hm => ?_, fun ha hm hroom => ?_, fun ha hm hfull => ?_⟩
  · simp [heq, ha]
  · simp only [heq, ha, if_true]
    exact announce_of_mem (by simpa [hlink] using hm)
  · simp only [heq, ha, if_true]
    rw [announce_of_room (by simpa [hlink] using hm) (by simpa [hlink] using hroom)]
    simp [State.withUrgent, hlink]
  · simp only [heq, ha, if_true]
    rw [announce_of_full (by simpa [hlink] using hm) (by simpa [hlink] using hfull)]
    simp [State.setGroup, place]

theorem evaluateClear_of_trips (hsat : satisfied (s.groupDesc g) (s.voter.groups.get g) = true)
    (hc : (s.groupDesc g).confirm = 0) : evaluateClear g s = enterTripped g .localTrip s := by
  simp [evaluateClear, hsat, hc]

theorem evaluateClear_of_arms (hsat : satisfied (s.groupDesc g) (s.voter.groups.get g) = true)
    (hc : (s.groupDesc g).confirm ≠ 0) : evaluateClear g s = enterArming g s := by
  simp [evaluateClear, hsat, hc]

theorem satisfied_of_noBasis {d : GroupDesc} {r : GroupRecord} (h : noBasis d r = true) : satisfied d r = false :=
  Bool.eq_false_iff.mpr fun hsat => not_noBasis_of_satisfied hsat h

theorem evaluateClear_of_noBasis (hno : noBasis (s.groupDesc g) (s.voter.groups.get g) = true) :
    evaluateClear g s = enterFault g s := by
  simp [evaluateClear, satisfied_of_noBasis hno, hno]

theorem evaluateClear_of_stays (hsat : satisfied (s.groupDesc g) (s.voter.groups.get g) = false)
    (hno : noBasis (s.groupDesc g) (s.voter.groups.get g) = false) : evaluateClear g s = s := by
  simp [evaluateClear, hsat, hno]

theorem tripsLocally_setGroup {r r' : GroupRecord} {t : State} (h : tripsLocally g r (s.setGroup g r') t) :
    tripsLocally g r s t := by
  simp only [tripsLocally, place_setGroup] at h ⊢
  exact h

theorem counted_eq (g : Group) (s : State) : counted g s = s.setGroup g (recount s g) := rfl

theorem setGroup_groupDesc (r : GroupRecord) (k : Group) : (s.setGroup g r).groupDesc k = s.groupDesc k := rfl

theorem setGroup_record (r : GroupRecord) : (s.setGroup g r).voter.groups.get g = r := by simp

/-- The moves of an evaluation out of CLEAR, for a group whose counts stand in its record (R52). -/
theorem evaluateClear_moves {r : GroupRecord} (hstate : r.state = .clear) :
    let d := s.groupDesc g
    (satisfied d r = true → d.confirm = 0 → tripsLocally g r s (evaluateClear g (s.setGroup g r))) ∧
    (satisfied d r = true → d.confirm ≠ 0 → evaluateClear g (s.setGroup g r) =
      place g { r with
        state := .arming, cause := none, confirm := .running d.confirm, stamp := s.events.time } s) ∧
    (noBasis d r = true → evaluateClear g (s.setGroup g r) = raise (.groupFault g)
      (place g { r with
        state := .fault, cause := none, confirm := .stopped, announceOwed := false, stamp := s.events.time } s)) ∧
    (satisfied d r = false → noBasis d r = false → evaluateClear g (s.setGroup g r) = s.setGroup g r) := by
  have hrec := setGroup_record (s := s) (g := g) r
  refine ⟨fun hsat hc => ?_, fun hsat hc => ?_, fun hno => ?_, fun hsat hno => ?_⟩
  · rw [evaluateClear_of_trips (s := s.setGroup g r) (by rwa [hrec]) hc]
    have h := enterTripped_tripsLocally (g := g) (s := s.setGroup g r) (by simp [hstate])
    rw [hrec] at h
    exact tripsLocally_setGroup h
  · rw [evaluateClear_of_arms (s := s.setGroup g r) (by rwa [hrec]) hc, enterArming_eq_place, place_setGroup, hrec]; rfl
  · rw [evaluateClear_of_noBasis (by rwa [hrec]), enterFault, enterState_eq_place, place_setGroup, hrec]; rfl
  · exact evaluateClear_of_stays (by rwa [hrec]) (by rwa [hrec])

/-- The moves of an evaluation out of ARMING, for a group whose counts stand in its record (R53). -/
theorem evaluateArming_moves (r : GroupRecord) :
    let d := s.groupDesc g
    (satisfied d r = true → evaluateArming g (s.setGroup g r) = s.setGroup g r) ∧
    (noBasis d r = true → evaluateArming g (s.setGroup g r) = raise (.groupFault g)
      (place g { r with
        state := .fault, cause := none, confirm := .stopped, announceOwed := false, stamp := s.events.time } s)) ∧
    (satisfied d r = false → noBasis d r = false → evaluateArming g (s.setGroup g r) =
      place g { r with
        state := .clear, cause := none, confirm := .stopped, announceOwed := false, stamp := s.events.time } s) := by
  have hrec := setGroup_record (s := s) (g := g) r
  refine ⟨fun hsat => ?_, fun hno => ?_, fun hsat hno => ?_⟩
  · simp [evaluateArming, setGroup_groupDesc, hsat]
  · have h : evaluateArming g (s.setGroup g r) = enterFault g (s.setGroup g r) := by
      simp [evaluateArming, setGroup_groupDesc, satisfied_of_noBasis hno, hno]
    rw [h, enterFault, enterState_eq_place, place_setGroup, hrec]; rfl
  · have h : evaluateArming g (s.setGroup g r) = enterState g .clear (s.setGroup g r) := by
      simp [evaluateArming, setGroup_groupDesc, hsat, hno]
    rw [h, enterState_eq_place, place_setGroup, hrec]; rfl

end

theorem place_raise_record (g : Group) (r : GroupRecord) (e : Event) (s : State) :
    (raise e (place g r s)).voter.groups.get g = r := by simp [place]

theorem raise_place_groupDesc (g k : Group) (r : GroupRecord) (e : Event) (s : State) :
    (raise e (place g r s)).groupDesc k = s.groupDesc k := by simp [State.groupDesc, place, setLines]

theorem raise_place_time (g : Group) (r : GroupRecord) (e : Event) (s : State) :
    (raise e (place g r s)).events.time = s.events.time := by simp [place, setLines]

theorem setGroup_same (g : Group) {r : GroupRecord} {s : State} (h : s.voter.groups.get g = r) : s.setGroup g r = s := by
  subst h; simp [State.setGroup]

/-! ### The trip lines (R61) -/

theorem foldl_or_getLsbD {α : Type} {w : Nat} (f : α → Bool) (mask : α → BitVec w) (n : Nat) : ∀ (l : List α) (x : BitVec w),
    (l.foldl (fun l g => if f g then l ||| mask g else l) x).getLsbD n = true ↔
      x.getLsbD n = true ∨ ∃ g ∈ l, f g = true ∧ (mask g).getLsbD n = true
  | [], x => by simp
  | g :: l, x => by
    rw [List.foldl_cons, foldl_or_getLsbD f mask n l]
    by_cases h : f g = true <;> simp [h, or_assoc]

theorem asserting_iff (d : GroupDesc) (r : GroupRecord) :
    asserting d r = true ↔ r.state = .tripped ∨ r.state = .fault ∧ d.used = true ∧ d.faultAsserts = true := by
  cases h : r.state <;> simp [asserting, h]

end Sys2Proof.Machine

end

section

namespace Sys2Proof.Proofs

open Sys2Proof.Machine Sys2Proof.Safety

/-- Settles O17, by the three conditions of `changeDue` and the place of the point in the publish list. -/
theorem duePoints : Obligations.DuePoints := by
  refine ⟨fun p q h s => ?_, fun p s => ⟨makeDue_of_absent, makeDue_of_listed, makeDue_of_carried⟩⟩
  exact ⟨fun hdue => if_pos ((changeDue_iff ..).mpr hdue), fun hdue => if_neg (mt (changeDue_iff ..).mp hdue)⟩

/-- Settles O19: the evaluation counts, and then the rule of the group's state applies; out of FAULT the group passes
through CLEAR. -/
theorem groupMoves : Obligations.GroupMoves := by
  refine ⟨fun g s hused => ?_, fun g s hused hfault => ?_⟩
  · intro d r
    have hrec : (Machine.counted g s).voter.groups.get g = r := counted_record g s
    refine ⟨fun hstate => ?_, fun hstate => ?_, fun hstate => ?_⟩
    · have heq : evaluate g s = evaluateClear g (s.setGroup g r) := by
        rw [evaluate_of_used hused, settle, hrec, hstate]; rfl
      rw [heq]
      exact evaluateClear_moves hstate
    · have heq : evaluate g s = evaluateArming g (s.setGroup g r) := by
        rw [evaluate_of_used hused, settle, hrec, hstate]; rfl
      rw [heq]
      exact evaluateArming_moves r
    · rw [evaluate_of_used hused, settle, hrec, hstate]; rfl
  · intro d r r0 s0
    have hrec : (Machine.counted g s).voter.groups.get g = r := counted_record g s
    have hstate : r.state = .fault := hfault
    have heq : evaluate g s = evaluateFault g (s.setGroup g r) := by
      rw [evaluate_of_used hused, settle, hrec, hstate]; rfl
    have hbasis : noBasis d r = false → evaluateFault g (s.setGroup g r) = evaluateClear g (s0.setGroup g r0) := by
      intro hno
      have henter : raise (.groupFaultEnded g) (enterState g .clear (s.setGroup g r)) = s0 := by
        rw [enterState_eq_place, place_setGroup, setGroup_record]; rfl
      rw [evaluateFault, setGroup_record, setGroup_groupDesc, if_neg (by simpa using hno), henter,
        setGroup_same g (place_raise_record ..)]
    have hdesc : s0.groupDesc g = d := raise_place_groupDesc ..
    have htime : s0.events.time = s.events.time := raise_place_time ..
    obtain ⟨htrips, harms, -, hstays⟩ := evaluateClear_moves (g := g) (s := s0) (r := r0) rfl
    rw [hdesc] at htrips harms hstays
    rw [htime] at harms
    refine ⟨fun hno => ?_, fun hsat hc => ?_, fun hsat hc => ?_, fun hsat hno => ?_⟩
    · rw [heq, evaluateFault, setGroup_record, setGroup_groupDesc, if_pos hno]; rfl
    · rw [heq, hbasis (by simpa using not_noBasis_of_satisfied hsat)]
      exact htrips hsat hc
    · rw [heq, hbasis (by simpa using not_noBasis_of_satisfied hsat)]
      exact harms hsat hc
    · rw [heq, hbasis hno, hstays hsat hno, setGroup_same g (place_raise_record ..)]

/-- Settles O20: a group in ARMING is not in FAULT, and trips with the record it holds. -/
theorem confirmExpiryTrips : Obligations.ConfirmExpiryTrips := by
  intro s g hactive hstate hdue
  refine ⟨_, rfl, ?_⟩
  have h : confirmExpiry g s = enterTripped g .localTrip s := by simp [confirmExpiry, hactive, hstate, hdue]
  rw [h]
  exact enterTripped_tripsLocally (by simp [hstate])

/-- Settles O21, by the fold over the groups of the lines that each asserts. -/
theorem tripLineLevels : Obligations.TripLineLevels := by
  intro s n
  cases hactive : s.active with
  | false =>
    have h : ∀ k : Fin 4, (0b1111#4).getLsbD k.val = true := by decide
    simp [State.lineLevels, hactive, h n]
  | true =>
    simp only [State.lineLevels, hactive, if_true, groupLines, foldl_or_getLsbD]
    simp [asserting_iff, and_comm, State.groupDesc]

end Sys2Proof.Proofs

end

/-! Events, timer expiries, the life cycle, and the commands whose event cannot occur. -/

section

namespace Sys2Proof.Machine

open Sys2Proof.Safety

/-! ### Events (R161 to R165, R178) -/

/-- A number below 256 is its own byte. -/
theorem toNat_ofNat_byte {n : Nat} (h : n < 256) : (BitVec.ofNat 8 n).toNat = n := by
  rw [BitVec.toNat_ofNat, Nat.mod_eq_of_lt h]

theorem toNat_ofNat_station (a : Station) : (BitVec.ofNat 8 a.val).toNat = a.val := toNat_ofNat_byte (by omega)

theorem toNat_ofNat_point (p : Point) : (BitVec.ofNat 8 p.val).toNat = p.val := toNat_ofNat_byte (by omega)

theorem toNat_halfBytes (e : Half) : (Half.bytes e).map (fun b => b.toNat) = [e.toNat / 256, e.toNat % 256] := by
  have h := e.isLt
  simp only [Half.bytes, List.map_cons, List.map_nil, BitVec.extractLsb'_toNat, Nat.shiftRight_eq_div_pow]
  congr 1
  · omega
  · congr 1; omega

theorem raise_of_masked {e : Event} {s : State} (h : (imageHalf s.control.image 18).getLsbD e.code = false) : raise e s = s :=
  if_neg (by simp [eventMask, h])

theorem raise_of_unmasked {e : Event} {s : State} (h : (imageHalf s.control.image 18).getLsbD e.code = true) :
    raise e s = { s with events := s.events.record e } := if_pos h

theorem EventQueue.record_of_room {q : EventQueue} (e : Event) (h : q.records.length < 32) :
    q.record e = { q with records := q.records ++ [{ event := e, time := q.time }], attn := true } := if_pos h

theorem EventQueue.record_of_full {q : EventQueue} (e : Event) (h : 32 ≤ q.records.length) :
    q.record e = { q with overflow := true } := if_neg (Nat.not_lt.mpr h)

/-! ### Re-examinations in input order (R75) -/

theorem reexamine_of_none {i : Input} {s : State} (h : s.custody.table.get i = none) : reexamine i s = s := by
  simp [reexamine, claimTrigger, reclaimTrigger, h]

theorem reexamineAll_eq (s : State) : reexamineAll s = (List.finRange 8).foldl (fun t i => reexamine i t) s := by
  unfold reexamineAll reexamineWhere
  congr 1
  funext t i
  cases h : t.custody.table.get i with
  | none => exact (reexamine_of_none h).symm
  | some c => exact if_pos rfl

theorem reexamineStation_eq (a : Station) (s : State) : reexamineStation a s = reexamineOthers a s := by
  unfold reexamineStation reexamineWhere reexamineOthers
  congr 1
  funext t i
  cases t.custody.table.get i with
  | none => rfl
  | some c => cases h : c.role <;> simp [otherStation, h]

theorem stopHoldoffs_get (s : State) (i : Input) : (stopHoldoffs s).custody.table.get i =
    (s.custody.table.get i).map (fun c => if c.role = .home then { c with holdoff := .stopped } else c) := by
  simp [stopHoldoffs]

/-! ### Custody timers (R84 to R86) -/

section

variable {s : State} {i : Input} {c : CustodyEntry}

theorem claimRetryExpired_of_due (ha : s.active = true) (hc : s.custody.table.get i = some c) (hd : c.claimRetry = .running 0) :
    claimRetryExpired i s = reexamine i (s.setCustody i { c with claimRetry := .stopped }) := by
  simp [claimRetryExpired, hc, ha, hd]

theorem holdoffExpired_of_due (ha : s.active = true) (hc : s.custody.table.get i = some c) (hd : c.holdoff = .running 0) :
    holdoffExpired i s = reexamine i (s.setCustody i { c with holdoff := .stopped }) := by
  simp [holdoffExpired, hc, ha, hd]

theorem reclaimWaitExpired_of_due (ha : s.active = true) (hc : s.custody.table.get i = some c)
    (hd : c.reclaimWait = .running 0) : reclaimWaitExpired i s =
      if s.otherOwns c then
        reexamine i (raise (.reclaimForced c.point) (s.setCustody i { c with reclaimWait := .stopped, lapsed := true }))
      else reexamine i (s.setCustody i { c with reclaimWait := .stopped }) := by
  simp [reclaimWaitExpired, hc, ha, hd]

/-- The other station of a HOME entry owns its point when its standby does. -/
theorem otherOwns_of_home (h : c.role = .home) : s.otherOwns c = true ↔
    ∃ b, (s.desc c.point).standbyStation = some b ∧ (s.mirror.get c.point).owner = some b := by
  cases hb : (s.desc c.point).standbyStation <;> simp [State.otherOwns, otherStation, h, hb]

/-- The other station of a STANDBY entry owns its point when its home does. -/
theorem otherOwns_of_standby (h : c.role = .standby) : s.otherOwns c = true ↔
    ∃ b, (s.desc c.point).homeStation = some b ∧ (s.mirror.get c.point).owner = some b := by
  cases hb : (s.desc c.point).homeStation <;> simp [State.otherOwns, otherStation, h, hb]

end

/-! ### Validation (R149 to R153) -/

theorem find?_finRange_eq_some {n : Nat} {f : Fin n → Bool} {i : Fin n} (hi : f i = true) (hlt : ∀ j, j < i → f j = false) :
    (List.finRange n).find? f = some i := by
  rw [List.find?_eq_some_iff_getElem]
  exact ⟨hi, i.val, by simp, by simp, fun j hj => by simpa using hlt _ (by exact hj)⟩

theorem find?_finRange_eq_none {n : Nat} {f : Fin n → Bool} (h : ∀ i, f i = false) : (List.finRange n).find? f = none :=
  List.find?_eq_none.mpr fun i _ => by simp [h i]

theorem validationCompletes_of_failure {s : State} (carrier : Bool) (hrst : s.control.rstAsserted = false)
    (hstate : s.control.state = .validating) {e : StartError} (he : validate s.control.image = e) (hne : e ≠ .none) :
    validationCompletes carrier s = { s with control := { s.control with state := .config, startError := e } } := by
  unfold validationCompletes
  rw [if_pos (by simp [hrst, hstate]), he]
  cases e with
  | none => exact absurd rfl hne
  | _ => rfl

theorem validationCompletes_of_passed {s : State} (carrier : Bool) (hrst : s.control.rstAsserted = false)
    (hstate : s.control.state = .validating) (h : validate s.control.image = .none) :
    validationCompletes carrier s = firstEvaluation (initialForm carrier s) := by
  unfold validationCompletes
  rw [if_pos (by simp [hrst, hstate]), h]

section

variable {m : List Host.Cell}

theorem formatTag_iff : (imageByte m 0).toNat ≠ Config.formatTag ↔ imageByte m 0 ≠ 0x3C :=
  not_congr ⟨fun h => BitVec.eq_of_toNat_eq h, fun h => by rw [h]; rfl⟩

theorem validate_of_badFormat (h : imageByte m 0 ≠ 0x3C) : validate m = .badFormat := if_pos (formatTag_iff.mpr h)

theorem validate_of_badStation (h0 : imageByte m 0 = 0x3C) (h1 : 15 < (imageByte m 1).toNat) : validate m = .badStation := by
  rw [validate, if_neg (by simpa [formatTag_iff] using h0), if_pos h1]

theorem validate_of_badLink (h0 : imageByte m 0 = 0x3C) (h1 : (imageByte m 1).toNat ≤ 15) (h : ¬ headerPasses m) :
    validate m = .badLink := by
  have hlink : presenceInterval m < 2 ∨ 250 < presenceInterval m ∨ silenceMultiple m < 3 ∨ 8 < silenceMultiple m := by
    simp only [headerPasses, h0, h1, true_and] at h
    unfold presenceInterval silenceMultiple
    omega
  rw [validate, if_neg (by simpa [formatTag_iff] using h0), if_neg (by omega), if_pos hlink]

/-- A header that passes leaves the checks of the tables (R150 to R153). -/
theorem validate_of_header (h : headerPasses m) : validate m =
    match (List.finRange 64).find? (pointFails m) with
    | some p => .badPoint p
    | none => match (List.finRange 16).find? (groupFails m) with
      | some g => .badGroup g
      | none => match (List.finRange 8).find? (inputFails m) with
        | some i => .badInput i
        | none => match (List.finRange 64).find? (pointUnbound m) with
          | some p => .badInputPoint p
          | none => .none := by
  obtain ⟨h0, h1, hP, hP', hK, hK'⟩ := h
  exact (if_neg (by simpa [formatTag_iff] using h0)).trans ((if_neg (by omega)).trans
    (if_neg (by unfold presenceInterval silenceMultiple; omega)))

end

/-! ### Commands that a guard holds back -/

/-- What a host command and a partial command are to the port: `hostCommand` of some effect (R146, R167). -/
theorem exec_eq_hostCommand {c : Instr}
    (hc : commandByte c ≠ none ∨ c = .partialCommandDiscarded ∨ ∃ b, c = .unknownCommandByte b) (s : State) :
    ∃ f, exec c s = .next (hostCommand f s) := by
  cases c with
  | writeImage off data => exact ⟨_, rfl⟩
  | readImage off n => exact ⟨_, rfl⟩
  | start => exact ⟨_, rfl⟩
  | restart b => exact ⟨_, rfl⟩
  | readStatus => exact ⟨_, rfl⟩
  | readPoint b => exact ⟨_, rfl⟩
  | readGroup b => exact ⟨_, rfl⟩
  | readRoster b => exact ⟨_, rfl⟩
  | popEvent => exact ⟨_, rfl⟩
  | clearLatch b => exact ⟨_, rfl⟩
  | release b => exact ⟨_, rfl⟩
  | reclaim => exact ⟨_, rfl⟩
  | unknownCommandByte b => exact ⟨_, rfl⟩
  | partialCommandDiscarded => exact ⟨_, rfl⟩
  | _ => simp [commandByte] at hc

/-- A timer that has not run out does not expire. -/
theorem Timer.due_eq_false {t : Timer} (h : t ≠ .running 0) : t.due = false := by
  rwa [Bool.eq_false_iff, ne_eq, Timer.due_iff]

theorem Holdoff.due_eq_false {t : Holdoff} (h : t ≠ .running 0) : t.due = false := by
  rwa [Bool.eq_false_iff, ne_eq, Holdoff.due_iff]

theorem completeFrame_of_nothing {s : State} (h : ∀ f, ¬ Completes s f) : completeFrame s = s := by
  unfold completeFrame
  cases ht : s.link.transmission with
  | idle =>
    cases hc : s.link.completion with
    | none => rfl
    | some f => exact absurd (.inr ⟨ht, hc⟩) (h f)
  | frame f => exact absurd (.inl ht) (h f)
  | jam => rfl
  | resetJam => rfl

theorem collideFrame_of_no_frame {s : State} (h : ∀ f, s.link.transmission ≠ .frame f) : collideFrame s = s := by
  unfold collideFrame
  cases ht : s.link.transmission with
  | frame f => exact absurd ht (h f)
  | idle => rfl
  | jam => rfl
  | resetJam => rfl

theorem endJam_of_no_jam {s : State} (hjam : s.link.transmission ≠ .jam) (hreset : s.link.transmission ≠ .resetJam) :
    endJam s = s := by
  unfold endJam
  cases ht : s.link.transmission with
  | jam => exact absurd ht hjam
  | resetJam => exact absurd ht hreset
  | idle => rfl
  | frame f => rfl

/-- `Free` is the model's own test. -/
theorem free_iff_Free (s : State) : s.link.free = true ↔ Free s := Link.free_iff _

/-- In the three runtime states the station is active exactly while RSTn is released. -/
theorem active_of_runtime {s : State} (h : s.control.state.runtime = true) : s.active = !s.control.rstAsserted := by
  simp [State.active, h]

theorem active_eq_false_or {s : State} {t : Timer} (h : s.active = false ∨ t ≠ .running 0) : (s.active && t.due) = false := by
  rcases h with h | h
  · simp [h]
  · simp [Timer.due_eq_false h]

theorem holdoff_eq_false_or {s : State} {t : Holdoff} (h : s.active = false ∨ t ≠ .running 0) :
    (s.active && t.due) = false := by
  rcases h with h | h
  · simp [h]
  · simp [Holdoff.due_eq_false h]

/-- The win of a class at a quiet station in RUN (R138). -/
theorem winSlot_of_deferral {s : State} {d : Deferral} (hrst : s.control.rstAsserted = false) (hrun : s.control.state = .run)
    (hfree : Free s) (hd : s.link.deferral = some d) : winSlot s = winClass d.linkClass (s.withDeferral none) := by
  have hlink := (free_iff_Free s).mpr hfree
  simp [winSlot, hrst, hrun, hlink, hd]

theorem winSlot_of_nothing {s : State}
    (h : s.active = false ∨ s.control.state ≠ .run ∨ ¬ Free s ∨ s.link.deferral = none) : winSlot s = s := by
  unfold winSlot
  split
  next hguard =>
    rw [Bool.and_eq_true, Bool.and_eq_true, free_iff_Free] at hguard
    obtain ⟨⟨hrst, hrun⟩, hfree⟩ := hguard
    have hrun : s.control.state = .run := by simpa using hrun
    have hactive : s.active = true := by rw [active_of_runtime (by simp [hrun, StationState.runtime]), hrst]
    cases hd : s.link.deferral with
    | none => rfl
    | some d => simp [hactive, hrun, hfree, hd] at h
  next => rfl

/-- The guard of an expiry that needs one station state, where RSTn, the state or the timer is against it. -/
theorem stateTimer_eq_false {s : State} {st : StationState} {t : Timer} (hst : st.runtime = true)
    (h : s.active = false ∨ s.control.state ≠ st ∨ t ≠ .running 0) :
    (!s.control.rstAsserted && (s.control.state == st) && t.due) = false := by
  rcases h with h | h | h
  · by_cases hs : s.control.state = st
    · rw [active_of_runtime (hs ▸ hst)] at h
      simp [h]
    · simp [hs]
  · simp [h]
  · simp [Timer.due_eq_false h]

end Sys2Proof.Machine

end

section

namespace Sys2Proof.Proofs

open Sys2Proof.Machine Sys2Proof.Safety

/-- Settles O22. -/
theorem eventsRecordedAndPopped : Obligations.EventsRecordedAndPopped := by
  refine ⟨fun g p a e n => ?_, fun e s => ?_, fun s hready => ⟨fun r rest hr => ?_, fun hr => ?_⟩⟩
  · have hg : g.val < 256 := by omega
    have hp : p.val < 256 := by omega
    have ha : a.val < 256 := by omega
    have hn : n.val < 256 := by omega
    simp [Event.code, Event.subject, Event.detail, Event.details, causeCode, stationByte, Cause.announcer,
      refusedReasonCode, rosterStateCode, rejectReasonCode, toNat_halfBytes, hg, hp, hn, Nat.mod_eq_of_lt ha]
  · refine ⟨raise_of_masked, fun h => ?_⟩
    rw [raise_of_unmasked h]
    exact ⟨fun hroom => by rw [EventQueue.record_of_room e hroom], fun hfull => by rw [EventQueue.record_of_full e hfull]⟩
  · show Host.Outcome.next (hostCommand popEvent s) = _
    rw [hostCommand_of_ready hready, popEvent, hr]
    cases s.events.overflow <;> rfl
  · show Host.Outcome.next (hostCommand popEvent s) = _
    rw [hostCommand_of_ready hready, popEvent, hr]
    rfl

/-- Settles O23, timer by timer. -/
theorem timerExpiries : Obligations.TimerExpiries := by
  refine ⟨⟨fun s p ha hd => ?_, fun s i c ha hc hd => ?_, fun s i c ha hc hd => ?_, fun s hrst hrun hd => ?_⟩,
    fun s i c ha hc hrole hd => ⟨fun b hb howner => ?_, fun hother => ?_⟩⟩
  · have h : refreshExpiry p s = makeDue p (s.setPub p { s.publisher.records.get p with refresh := .stopped }) := by
      simp [refreshExpiry, ha, hd]
    exact congrArg Host.Outcome.next h
  · exact congrArg Host.Outcome.next (claimRetryExpired_of_due ha hc hd)
  · exact congrArg Host.Outcome.next (holdoffExpired_of_due ha hc hd)
  · have h : presenceExpired s = { s with roster := { s.roster with
        presencePending := true, presenceTimer := .running (imageByte s.control.image 32).toNat } } := by
      simp [presenceExpired, hrst, hrun, hd, Timer.start, presenceInterval]
    exact congrArg Host.Outcome.next h
  · refine congrArg Host.Outcome.next ((reclaimWaitExpired_of_due ha hc hd).trans (if_pos ?_))
    exact (otherOwns_of_home hrole).mpr ⟨b, hb, howner⟩
  · refine congrArg Host.Outcome.next ((reclaimWaitExpired_of_due ha hc hd).trans (if_neg ?_))
    rw [otherOwns_of_home hrole]
    rintro ⟨b, hb, howner⟩
    exact hother b hb howner

/-- Settles O24: SILENT is another state than PRESENT, so that the standing changes. -/
theorem silenceExpiry : Obligations.SilenceExpiry := by
  intro s a ha hstate hd
  have h : silenceExpired a s = setStanding a { s.roster.entries.get a with state := .silent, silence := .stopped } s := by
    simp [silenceExpired, ha, hstate, hd]
  refine congrArg Host.Outcome.next (h.trans ?_)
  rw [setStanding, if_neg (by simp [hstate]), reexamineStation_eq]
  rfl

/-- Settles O10: RUN_ENTERED, the Roster's start and the stop of the holdoffs give the state that is re-examined. -/
theorem listenExpiryEntersRun : Obligations.ListenExpiryEntersRun := by
  intro s hrst hstate hd
  let s1 := Machine.raise .runEntered { s with control := { s.control with state := .run, listen := .stopped } }
  have h : listenExpired s = reexamineAll (stopHoldoffs (startPresence s1)) := by simp [listenExpired, hrst, hstate, hd, s1]
  refine ⟨stopHoldoffs (startPresence s1), ?_, ?_, fun i hi => ?_, fun i c hi => ?_, ?_, ?_, ?_, ?_, ?_, ?_, ?_, ?_, ?_, ?_,
    congrArg Host.Outcome.next (h.trans (reexamineAll_eq _))⟩
  case refine_3 =>
    rw [stopHoldoffs_get]
    simp [startPresence, s1, hi]
  case refine_4 =>
    rw [stopHoldoffs_get]
    simp [startPresence, s1, hi]
  case refine_6 => simp only [stopHoldoffs, startPresence, s1, Machine.raise, State.withTable_events]; split <;> rfl
  all_goals simp [stopHoldoffs, startPresence, s1, Timer.start, presenceInterval]

/-- Settles O28, by the station state. -/
theorem hostReclaim : Obligations.HostReclaim := by
  intro s hready
  have hexec : exec .reclaim s = .next (reclaimCommand s) := congrArg Host.Outcome.next (hostCommand_of_ready hready _)
  rw [hexec]
  refine ⟨fun hrun => congrArg Host.Outcome.next (if_neg hrun), fun hrun => ?_⟩
  refine ⟨stopHoldoffs s, _, rfl, fun i hi => by rw [stopHoldoffs_get, hi]; rfl,
    fun i c hi => by rw [stopHoldoffs_get, hi]; rfl, rfl, ?_⟩
  rw [← reexamineAll_eq]
  exact congrArg Host.Outcome.next (if_pos hrun)

/-- Settles O6: the checks of `validate`, in order. -/
theorem validationStopsAtFirstFailure : Obligations.ValidationStopsAtFirstFailure := by
  intro s carrier hrst hstate m failed points groups inputs
  have fails {e : StartError} (he : validate m = e) (hne : e ≠ .none) : exec (.validationCompletion carrier) s = failed e :=
    congrArg Host.Outcome.next (validationCompletes_of_failure carrier hrst hstate he hne)
  refine ⟨fun h => fails (validate_of_badFormat h) (by simp), fun h0 h1 => fails (validate_of_badStation h0 h1) (by simp),
    fun h0 h1 h => fails (validate_of_badLink h0 h1 h) (by simp), fun p h hp hlt => fails ?_ (by simp),
    fun g ⟨h, hp⟩ hg hlt => fails ?_ (by simp), fun i ⟨⟨h, hp⟩, hg⟩ hi hlt => fails ?_ (by simp),
    fun p ⟨⟨⟨h, hp⟩, hg⟩, hi⟩ hu hlt => fails ?_ (by simp)⟩
  · rw [validate_of_header h, find?_finRange_eq_some hp hlt]
  · rw [validate_of_header h, find?_finRange_eq_none hp, find?_finRange_eq_some hg hlt]
  · rw [validate_of_header h, find?_finRange_eq_none hp, find?_finRange_eq_none hg, find?_finRange_eq_some hi hlt]
  · rw [validate_of_header h, find?_finRange_eq_none hp, find?_finRange_eq_none hg, find?_finRange_eq_none hi,
      find?_finRange_eq_some hu hlt]

/-- Settles O25: in each of these states a guard of the command is false. -/
theorem eventsThatCannotOccur : Obligations.EventsThatCannotOccur := by
  intro s
  refine ⟨fun p h => ?_, fun g h => ?_, fun p h => ?_, fun i h => ?_, fun i h => ?_, fun i h => ?_, fun a h => ?_, fun h => ?_,
    fun h => ?_, fun h => ?_, fun h => ?_, fun h => ?_, fun hjam hreset => ?_, fun h => ?_, fun h => ?_, fun carrier h => ?_,
    fun c hc => ⟨fun hrst => ?_, fun hrst hwait => ?_⟩⟩
  · exact congrArg Host.Outcome.next (if_neg (by simp [active_eq_false_or h]))
  · exact congrArg Host.Outcome.next (if_neg (by simp [active_eq_false_or h]))
  · exact congrArg Host.Outcome.next (if_neg (by simp [active_eq_false_or h]))
  · refine congrArg Host.Outcome.next ?_
    rw [claimRetryExpired]
    cases hc : s.custody.table.get i with
    | none => rfl
    | some c => exact if_neg (by simp [active_eq_false_or (h.imp_right (· c hc))])
  · refine congrArg Host.Outcome.next ?_
    rw [reclaimWaitExpired]
    cases hc : s.custody.table.get i with
    | none => rfl
    | some c => exact if_neg (by simp [active_eq_false_or (h.imp_right (· c hc))])
  · refine congrArg Host.Outcome.next ?_
    rw [holdoffExpired]
    cases hc : s.custody.table.get i with
    | none => rfl
    | some c => exact if_neg (by simp [holdoff_eq_false_or (h.imp_right (· c hc))])
  · exact congrArg Host.Outcome.next (if_neg (by simp [active_eq_false_or h]))
  · exact congrArg Host.Outcome.next (if_neg (by simp [stateTimer_eq_false rfl h]))
  · exact congrArg Host.Outcome.next (if_neg (by simp [stateTimer_eq_false rfl h]))
  · exact congrArg Host.Outcome.next (if_neg (by simp [stateTimer_eq_false rfl h]))
  · exact congrArg Host.Outcome.next (completeFrame_of_nothing h)
  · exact congrArg Host.Outcome.next (collideFrame_of_no_frame h)
  · exact congrArg Host.Outcome.next (endJam_of_no_jam hjam hreset)
  · exact congrArg Host.Outcome.next (winSlot_of_nothing h)
  · refine congrArg Host.Outcome.next (if_neg ?_)
    rw [Bool.and_eq_true, free_iff_Free]
    rintro ⟨ha, hfree⟩
    exact h.elim (fun h => absurd (ha.symm.trans h) (by simp)) (fun h => h hfree)
  · refine congrArg Host.Outcome.next (if_neg ?_)
    rcases h with h | h <;> simp [h]
  · obtain ⟨f, hf⟩ := exec_eq_hostCommand hc s
    rw [hf, hostCommand, if_pos hrst]
  · obtain ⟨f, hf⟩ := exec_eq_hostCommand hc s
    rw [hf, hostCommand, if_neg (by simp [hrst]), if_pos hwait]

end Sys2Proof.Proofs

end

/-! The bits of a sample word, samples at their contexts, and content writes. -/

section

namespace Sys2Proof.Machine

open Sys2Proof.Safety

/-! ### The number that bits spell (R24, R176) -/

theorem foldl_bits (l : List Bool) : ∀ n, l.foldl (fun n b => 2 * n + b.toNat) n = n * 2 ^ l.length + bitsNat l := by
  induction l with
  | nil => simp [bitsNat]
  | cons b l ih =>
    intro n
    have h := ih b.toNat
    simp only [bitsNat, List.foldl_cons, List.length_cons, Nat.mul_zero, Nat.zero_add, pow_succ] at h ih ⊢
    rw [ih, h]
    ring

theorem bitsNat_append (a b : List Bool) : bitsNat (a ++ b) = bitsNat a * 2 ^ b.length + bitsNat b := by
  rw [bitsNat, List.foldl_append, foldl_bits b]; rfl

theorem bitsNat_cons (b : Bool) (l : List Bool) : bitsNat (b :: l) = b.toNat * 2 ^ l.length + bitsNat l := by
  have h := bitsNat_append [b] l
  simpa [bitsNat] using h

theorem bitsNat_lt : ∀ l : List Bool, bitsNat l < 2 ^ l.length
  | [] => by simp [bitsNat]
  | b :: l => by
    have h := bitsNat_lt l
    have hb : b.toNat ≤ 1 := Bool.toNat_le b
    rw [bitsNat_cons, List.length_cons, pow_succ]
    nlinarith

theorem testBit_bitsNat : ∀ (l : List Bool) (k : Nat), k < l.length → (bitsNat l).testBit (l.length - 1 - k) = l.getD k false
  | [], k, h => absurd h (by simp)
  | b :: l, 0, _ => by
    rw [bitsNat_cons, Nat.mul_comm]
    have hb : b.toNat.testBit 0 = b := by cases b <;> rfl
    simp [Nat.testBit_two_pow_mul_add _ (bitsNat_lt l), hb]
  | b :: l, k + 1, h => by
    have hk : k < l.length := by simpa using h
    have hlt : l.length - 1 - k < l.length := by omega
    rw [bitsNat_cons, Nat.mul_comm, List.getD_cons_succ, ← testBit_bitsNat l k hk]
    have hidx : (b :: l).length - 1 - (k + 1) = l.length - 1 - k := by simp; omega
    rw [hidx, Nat.testBit_two_pow_mul_add _ (bitsNat_lt l), if_pos hlt]

theorem bitsNat_nibble (n3 n2 n1 n0 : Bool) :
    bitsNat [n3, n2, n1, n0] = 8 * n3.toNat + 4 * n2.toNat + 2 * n1.toNat + n0.toNat := by
  simp [bitsNat]; ring

section

variable (n3 n2 n1 n0 : Bool)

theorem shortInput_eq (rest : List Bool) {n : Fin 16}
    (hn : n.val = 8 * n3.toNat + 4 * n2.toNat + 2 * n1.toNat + n0.toNat) :
    shortInput (n3 :: n2 :: n1 :: n0 :: rest) = some n := by
  have h : bitsNat ((n3 :: n2 :: n1 :: n0 :: rest).take Config.inputBits) = n.val := by
    rw [hn, ← bitsNat_nibble]; rfl
  rw [shortInput, if_pos (by simp [Config.inputBits]), h]
  exact congrArg some (Fin.ext (by simp))

theorem shortInput_none {bits : List Bool} (h : bits.length < 4) : shortInput bits = none :=
  if_neg (by simpa [Config.inputBits] using h)

theorem localInput_none {n : Fin 16} (h : 8 ≤ n.val) : localInput n = none := dif_neg (by omega)

theorem localInput_some {n : Fin 16} {i : Input} (h : n.val = i.val) : localInput n = some i := by
  rw [localInput, dif_pos (by omega)]
  exact congrArg some (Fin.ext h)

end

/-- The fields of a word of 24 bits or more, by the bits of its first 24 (R176). -/
theorem sampleWord_fields (n3 n2 n1 n0 fault r2 r1 r0 : Bool) (value rest : List Bool) (hv : value.length = 16) :
    let w := sampleWord (n3 :: n2 :: n1 :: n0 :: fault :: r2 :: r1 :: r0 :: (value ++ rest))
    w.input.val = 8 * n3.toNat + 4 * n2.toNat + 2 * n1.toNat + n0.toNat ∧ w.fault = fault ∧
    ∀ k : Fin 16, w.value.getLsbD (15 - k.val) = value.getD k.val false := by
  intro w
  have htake : (n3 :: n2 :: n1 :: n0 :: fault :: r2 :: r1 :: r0 :: (value ++ rest)).take Config.sampleBits =
      [n3, n2, n1, n0] ++ (fault :: r2 :: r1 :: r0 :: value) := by
    have hrest : (value ++ rest).take 16 = value := by rw [← hv, List.take_left]
    simp [Config.sampleBits, hrest]
  have hlen : ([n3, n2, n1, n0] ++ (fault :: r2 :: r1 :: r0 :: value)).length = 24 := by simp [hv]
  have hlt := bitsNat_lt ([n3, n2, n1, n0] ++ (fault :: r2 :: r1 :: r0 :: value))
  have hbit := testBit_bitsNat ([n3, n2, n1, n0] ++ (fault :: r2 :: r1 :: r0 :: value))
  rw [hlen] at hlt hbit
  have hsplit := bitsNat_append [n3, n2, n1, n0] (fault :: r2 :: r1 :: r0 :: value)
  have hrest := bitsNat_lt (fault :: r2 :: r1 :: r0 :: value)
  rw [bitsNat_nibble] at hsplit
  simp only [List.length_cons, hv] at hsplit hrest
  refine ⟨?_, ?_, fun k => ?_⟩
  · simp only [w, sampleWord, htake, BitVec.val_toFin, BitVec.extractLsb'_toNat, BitVec.toNat_ofNat,
      Nat.mod_eq_of_lt hlt, Nat.shiftRight_eq_div_pow]
    have h3 := Bool.toNat_le n3
    have h2 := Bool.toNat_le n2
    have h1 := Bool.toNat_le n1
    have h0 := Bool.toNat_le n0
    omega
  · have h := hbit 4 (by omega)
    show (BitVec.ofNat 24 (bitsNat (List.take Config.sampleBits _))).getLsbD 19 = fault
    rw [htake, BitVec.getLsbD_ofNat]
    simpa using h
  · have h := hbit (8 + k.val) (by omega)
    have hk : 24 - 1 - (8 + k.val) = 15 - k.val := by omega
    have hlow : 15 - k.val < 16 := by omega
    have hword : 15 - k.val < 24 := by omega
    rw [hk] at h
    show (BitVec.extractLsb' 0 16 (BitVec.ofNat 24 (bitsNat (List.take Config.sampleBits _)))).getLsbD (15 - k.val) = _
    rw [htake, BitVec.getLsbD_extractLsb', BitVec.getLsbD_ofNat, Nat.zero_add, h]
    simp [hlow, hword, Nat.add_comm 8]

/-! ### Frames of the sample port (R24 to R27) -/

section

variable {s : State} {bits : List Bool}

theorem sampleEnds_of_open (hrst : s.control.rstAsserted = false) (hopen : s.sample.abandoned = false)
    (hrun : s.control.state.runtime = true) : sampleEnds bits s = judgeSample bits s := by
  simp [sampleEnds, hrst, hopen, hrun]

theorem judgeSample_of_short (hne : bits ≠ []) (hlen : bits.length < 24) :
    judgeSample bits s = raise (.sampleRejected (shortInput bits) .short) s := by
  rw [judgeSample, if_neg (by simpa using hne), if_pos (by simpa [Config.sampleBits] using hlen)]

theorem judgeSample_of_whole (hlen : 24 ≤ bits.length) : judgeSample bits s = routeSample (sampleWord bits) s := by
  rw [judgeSample, if_neg (by omega), if_neg (by simpa [Config.sampleBits] using hlen)]

theorem routeSample_of_unmapped {w : SampleWord} {i : Input} (hi : w.input.val = i.val) (hp : (s.contexts.get i).point = none) :
    routeSample w s = raise (.sampleRejected (some w.input) .unmapped) s := by
  rw [routeSample, localInput_some hi]
  dsimp only
  rw [hp]

theorem routeSample_of_mapped {w : SampleWord} {i : Input} {p : Point} (hi : w.input.val = i.val)
    (hp : (s.contexts.get i).point = some p) : routeSample w s = takeSample i p w s := by
  rw [routeSample, localInput_some hi]
  dsimp only
  rw [hp]

theorem sampleEnds_of_sampleFor {i : Input} {p : Point} (h : SampleFor s bits i p) :
    sampleEnds bits s = takeSample i p (sampleWord bits) s := by
  obtain ⟨hrst, hopen, hrun, hlen, hi, hp⟩ := h
  rw [sampleEnds_of_open hrst hopen hrun, judgeSample_of_whole hlen, routeSample_of_mapped hi hp]

end

/-! ### Content writes (R14, R17, R18, R20 to R22) -/

theorem Latch.afterWrite_eq (l : Latch) (h0 h : Hit) : l.afterWrite h0 h =
    { high := l.high || (h0 != .side .high && h == .side .high)
      low := l.low || (h0 != .side .low && h == .side .low)
      inside := l.inside || (h0 != .side .inside && h == .side .inside) } := by
  unfold Latch.afterWrite
  by_cases heq : h = h0
  · subst heq
    simp [bne]
  · rw [if_neg heq]
    cases h with
    | none =>
      have hb (x : Side) : (Hit.none == Hit.side x) = false := rfl
      simp [hb]
    | clear =>
      have hb (x : Side) : (Hit.clear == Hit.side x) = false := rfl
      simp [hb]
    | side x =>
      have hb (y : Side) : (Hit.side x == Hit.side y) = decide (x = y) := by cases x <;> cases y <;> rfl
      have hne : (h0 != Hit.side x) = true := bne_iff_ne.mpr (Ne.symm heq)
      cases x <;> simp [Latch.add, hb, hne]

theorem written_eq (e : MirrorEntry) (limit : Nat) (q : Quality) (h : Hit) (v : Option Half) :
    e.written limit q h v = Safety.written e limit q h v := by
  rw [MirrorEntry.written, Latch.afterWrite_eq]; rfl

/-- A change passed to the voter where quality or hit differ (R20). -/
def heardByVoter (p : Point) (e e' : MirrorEntry) (s : State) : State :=
  if e'.quality = e.quality ∧ e'.hit = e.hit then s else passToVoter p s

/-- The entry written, the voter told of a change, and at the owner the Publisher (R20 to R22). -/
theorem contentWrite_eq (p : Point) (q : Quality) (h : Hit) (v : Option Half) (s : State) :
    let e := s.mirror.get p
    let e' := Safety.written e (s.desc p).freshness q h v
    let u := heardByVoter p e e' (s.setEntry p e')
    contentWrite p q h v s = if e.owner = some s.own then passToPublisher p e.quality e.hit u else u := by
  intro e e' u
  have hget : (s.setEntry p e').mirror.get p = e' := by simp
  rw [contentWrite, written_eq, passOn, hget]
  rfl

end Sys2Proof.Machine

end

section

namespace Sys2Proof.Proofs

open Sys2Proof.Machine Sys2Proof.Safety

/-- Settles O12: the bits of the word, and the checks of the Sample Interface in order. -/
theorem samplesChecked : Obligations.SamplesChecked := by
  refine ⟨sampleWord_fields, fun s => ⟨fun bits hrst => congrArg Host.Outcome.next (if_pos hrst),
    fun bits hrst hab => ?_, fun hrst hopen => ⟨fun bits hrun => ?_, fun hrun => ?_⟩⟩⟩
  · have h : sampleEnds bits s = { s with sample := { abandoned := false } } := by simp [sampleEnds, hrst, hab]
    exact congrArg Host.Outcome.next h
  · have h : sampleEnds bits s = s := by simp [sampleEnds, hrst, hopen, hrun]
    exact congrArg Host.Outcome.next h
  · have hexec bits : exec (.sampleArrival bits) s = .next (judgeSample bits s) :=
      congrArg Host.Outcome.next (sampleEnds_of_open hrst hopen hrun)
    simp only [hexec]
    refine ⟨rfl, fun bits hne hlen => ?_, fun n3 n2 n1 n0 rest n hlen hn => ?_, fun bits hlen hill => ?_,
      fun bits i hlen hi hp => ?_⟩
    · rw [judgeSample_of_short hne (by omega), shortInput_none hlen]
    · rw [judgeSample_of_short (by simp) (by simp; omega), shortInput_eq n3 n2 n1 n0 rest hn]
    · rw [judgeSample_of_whole hlen, routeSample, localInput_none hill]
    · rw [judgeSample_of_whole hlen, routeSample_of_unmapped hi hp]

/-- Settles O13: the evaluation keeps the role, which decides on the sample write. -/
theorem sampleTaken : Obligations.SampleTaken := by
  refine ⟨fun s bits i p h hrole => ?_, fun s bits i p h hrole => ?_⟩
  all_goals
    have hexec : exec (.sampleArrival bits) s = .next (takeSample i p (sampleWord bits) s) :=
      congrArg Host.Outcome.next (sampleEnds_of_sampleFor h)
    have hkept := (evaluateSample_point_role (s.desc p) (sampleWord bits) (s.contexts.get i)).2
    rw [hexec, takeSample]
    simp only [hkept, hrole]
  · exact ⟨fun hq => by rw [if_neg hq]; rfl, fun hq => by rw [if_pos hq]; rfl⟩
  · rw [if_pos trivial, writeFromContext, contentWrite_eq]
    exact ⟨fun hq => by rw [if_neg hq]; rfl, fun hq => by rw [if_pos hq]; rfl⟩

end Sys2Proof.Proofs

end

/-! Episodes on the link, and the frames of the Group Voter and the Roster. -/

section

namespace Sys2Proof.Machine

open Sys2Proof.Safety

/-! ### Episodes that are not taken (R125, R127, R128) -/

theorem exec_frameCommand {bytes : List Byte} {c : Instr} (hc : c ∈ frameCommands bytes) (s : State) :
    exec c s = .next (receiveFrame bytes s) := by
  simp only [frameCommands, List.mem_cons, List.not_mem_nil, or_false] at hc
  rcases hc with rfl | rfl | rfl | rfl | rfl | rfl | rfl | rfl <;> rfl

section

variable {s : State} {bytes : List Byte} {f : Frame}

theorem receiveFrame_of_deaf (h : s.active = false) : receiveFrame bytes s = s := by simp [receiveFrame, State.receiving, h]

theorem receiveFrame_of_ignoring (ha : s.active = true) (h : s.link.ignoring = true) : receiveFrame bytes s = endIgnoring s := by
  simp [receiveFrame, State.receiving, ha, h]

theorem receiveFrame_of_busy (ha : s.active = true) (hi : s.link.ignoring = false) (hfree : ¬ Free s)
    (hown : ∀ f, s.link.transmission = .frame f → f.bytes ≠ bytes) : receiveFrame bytes s = s := by
  have hfree : s.link.free = false := Bool.eq_false_iff.mpr fun h => hfree ((free_iff_Free s).mp h)
  have hown : sendingLoopback s bytes = false := by
    unfold sendingLoopback
    cases ht : s.link.transmission with
    | frame f => simpa using hown f ht
    | idle => rfl
    | jam => rfl
    | resetJam => rfl
  simp [receiveFrame, State.receiving, ha, hi, hfree, hown]

theorem receiveFrame_of_hears (h : Hears s) :
    receiveFrame bytes s = takeBytes bytes (owedLoopback s bytes) (endOwnEpisode s) := by
  obtain ⟨ha, hi, hfree⟩ := h
  simp [receiveFrame, State.receiving, ha, hi, (free_iff_Free s).mpr hfree]

theorem receiveFrame_of_sending (ha : s.active = true) (hi : s.link.ignoring = false) (ht : s.link.transmission = .frame f)
    (hb : f.bytes = bytes) : receiveFrame bytes s = takeBytes bytes true (endHeardFrame s) := by
  have hfree : s.link.free = false := by simp [Link.free, ht]
  have hown : sendingLoopback s bytes = true := by simp [sendingLoopback, ht, hb]
  simp [receiveFrame, State.receiving, ha, hi, hfree, hown]

variable {effect : State → State}

theorem receiveOther_of_deaf (h : s.active = false) : receiveOther effect s = s := by simp [receiveOther, State.receiving, h]

theorem receiveOther_of_ignoring (ha : s.active = true) (h : s.link.ignoring = true) :
    receiveOther effect s = endIgnoring s := by
  simp [receiveOther, State.receiving, ha, h]

theorem receiveOther_of_busy (ha : s.active = true) (hi : s.link.ignoring = false) (hfree : ¬ Free s) :
    receiveOther effect s = s := by
  have hfree : s.link.free = false := Bool.eq_false_iff.mpr fun h => hfree ((free_iff_Free s).mp h)
  simp [receiveOther, State.receiving, ha, hi, hfree]

theorem receiveOther_of_jammed (h : Hears s) (hj : s.link.jammed = true) : receiveOther effect s = endOwnEpisode s := by
  obtain ⟨ha, hi, hfree⟩ := h
  simp [receiveOther, State.receiving, ha, hi, (free_iff_Free s).mpr hfree, hj]

theorem receiveOther_of_hears (h : Hears s) (hj : s.link.jammed = false) :
    receiveOther effect s = effect (rejectFrame (endOwnEpisode s)) := by
  obtain ⟨ha, hi, hfree⟩ := h
  simp [receiveOther, State.receiving, ha, hi, (free_iff_Free s).mpr hfree, hj]

/-! ### Frames that pass checks 1 to 3 (R129 to R131, R137) -/

theorem owedLoopback_of_some (h : s.link.loopback = some f) (hb : f.bytes = bytes) : owedLoopback s bytes = true := by
  simp [owedLoopback, h, hb]

theorem owedLoopback_eq_false (h : ∀ g, s.link.loopback = some g → g.bytes ≠ bytes) : owedLoopback s bytes = false := by
  unfold owedLoopback
  cases hl : s.link.loopback with
  | none => rfl
  | some g => simpa using h g hl

theorem setAnchor_eq (f : Frame) (s : State) : setAnchor f s = { s with link := anchorOf f s.link } := by
  unfold setAnchor anchorOf
  cases f.payload <;> rfl

theorem setAnchor_endOwnEpisode (f : Frame) (s : State) :
    setAnchor f (endOwnEpisode s) = { s with link := anchored f s.link } := by
  rw [setAnchor_eq, anchored, anchorOf, anchorOf]
  cases f.payload <;> rfl

theorem receiveFrame_of_parsed (h : Hears s) (hp : parseFrame bytes = some f) :
    receiveFrame bytes s = takeFrame f (owedLoopback s bytes) (endOwnEpisode s) := by
  rw [receiveFrame_of_hears h, takeBytes, hp]

theorem takeFrame_of_duplicate (h : f.sender = s.own) : takeFrame f false s = raise .duplicateStation (setAnchor f s) := by
  simp [takeFrame, h]

theorem takeFrame_of_foreign (h : f.sender ≠ s.own) : takeFrame f false s =
    if admitted (setAnchor f s) false f then dispatchFrame f false (noteHeard f false (setAnchor f s)) else setAnchor f s := by
  simp [takeFrame, h]

theorem takeFrame_of_own : takeFrame f true s = dispatchFrame f true (setAnchor f s) := by
  simp [takeFrame, admitted, noteHeard]

/-- Admission of another kind than PRESENCE is the sender's standing alone (R115). -/
theorem admitted_eq (hp : isPresence f.payload = false) :
    admitted s false f = ((s.roster.entries.get f.sender).state == .present) := by
  unfold admitted
  cases h : f.payload with
  | presence d ps ns => simp [h, isPresence] at hp
  | _ => rfl

theorem noteHeard_eq (hp : isPresence f.payload = false) : noteHeard f false s = heard f.sender s := by
  unfold noteHeard
  cases h : f.payload with
  | presence d ps ns => simp [h, isPresence] at hp
  | _ => rfl

theorem receiveFrame_of_foreign (h : ForeignFrame s bytes f) : receiveFrame bytes s = takeFrame f false (endOwnEpisode s) := by
  obtain ⟨hears, hloop, hparse, -⟩ := h
  rw [receiveFrame_of_parsed hears hparse, owedLoopback_eq_false (by simp [hloop])]

/-- A frame of a partner and of another kind than PRESENCE is dispatched once its sender is noted (R115, R131). -/
theorem receiveFrame_of_partner (h : PartnerFrame s bytes f) (hp : isPresence f.payload = false) :
    receiveFrame bytes s = dispatchFrame f false (admittedState f s) := by
  obtain ⟨hf, hstate⟩ := h
  rw [receiveFrame_of_foreign hf, takeFrame_of_foreign (s := endOwnEpisode s) hf.2.2.2, setAnchor_endOwnEpisode,
    if_pos (by rw [admitted_eq hp]; simpa using hstate), noteHeard_eq hp]
  rfl

/-- A PRESENCE frame of another station is always dispatched (R115). -/
theorem receiveFrame_of_presence (h : ForeignFrame s bytes f) {d : Word} {ps : List ActedPair} {ns : List WireNotice}
    (hp : f.payload = .presence d ps ns) :
    receiveFrame bytes s = takePresence f.sender false d ps ns { s with link := anchored f s.link } := by
  rw [receiveFrame_of_foreign h, takeFrame_of_foreign (s := endOwnEpisode s) h.2.2.2, setAnchor_endOwnEpisode,
    if_pos (by simp [admitted, hp]), dispatchFrame, hp]
  simp [noteHeard, hp]

/-- The station's own frame, heard back after its completion or ahead of it, is dispatched (R130, R132). -/
theorem receiveFrame_of_own (h : OwnLoopback s bytes f) : receiveFrame bytes s = dispatchFrame f true (heardBack f s) := by
  obtain ⟨h, hparse, hbytes, -⟩ := h
  rcases h with ⟨hears, hloop⟩ | ⟨ha, hi, ht⟩
  · rw [receiveFrame_of_parsed hears hparse, owedLoopback_of_some hloop hbytes, takeFrame_of_own, setAnchor_endOwnEpisode,
      heardBack, if_pos hears.2.2.1]
  · rw [receiveFrame_of_sending ha hi ht hbytes, takeBytes, hparse]
    dsimp only
    rw [takeFrame_of_own, setAnchor_eq, heardBack, if_neg (by simp [ht])]
    unfold endHeardFrame anchorOf
    rw [ht]
    cases f.payload <;> rfl

/-- What an admitted frame and the own frame heard back leave of the state before their content is taken. -/
theorem taken_eq {u : State} (h : PartnerFrame s bytes f ∧ u = admittedState f s ∨ OwnLoopback s bytes f ∧ u = heardBack f s) :
    ∃ l r, u = { s with link := l, roster := r } := by
  rcases h with ⟨-, rfl⟩ | ⟨-, rfl⟩ <;> exact ⟨_, _, rfl⟩

theorem receiveFrame_of_taken {u : State} (hp : isPresence f.payload = false)
    (h : PartnerFrame s bytes f ∧ u = admittedState f s ∨ OwnLoopback s bytes f ∧ u = heardBack f s) :
    ∃ own, receiveFrame bytes s = dispatchFrame f own u := by
  rcases h with ⟨h, rfl⟩ | ⟨h, rfl⟩
  · exact ⟨false, receiveFrame_of_partner h hp⟩
  · exact ⟨true, receiveFrame_of_own h⟩

end

/-! ### TRIP frames (R102 to R104, R108, R109) -/

section

variable {s : State} {b : Byte} {g : Group} {a : Station} {own : Bool}

theorem takeTrip_of_no_group (k : Byte) (hb : 16 ≤ b.toNat) : takeTrip a own b k s = s := by
  rw [takeTrip, groupOfByte_eq_none_iff.mpr hb]

theorem takeTrip_of_unused (k : Byte) (hb : b.toNat = g.val) (h : (s.groupDesc g).used = false) : takeTrip a own b k s = s := by
  rw [takeTrip, groupOfByte_eq_some_iff.mpr hb]
  simp [h]

theorem takeTrip_of_tripped (hb : b.toNat = g.val) (h : (s.groupDesc g).used = true) :
    takeTrip a own b 1 s = takeTripped a own g s := by
  rw [takeTrip, groupOfByte_eq_some_iff.mpr hb]
  simp [h]

theorem takeTrip_of_release (hb : b.toNat = g.val) (h : (s.groupDesc g).used = true) :
    takeTrip a own b 2 s = takeRelease a g s := by
  rw [takeTrip, groupOfByte_eq_some_iff.mpr hb]
  simp [h]

theorem takeTrip_of_other {k : Byte} (h1 : k ≠ 1) (h2 : k ≠ 2) : takeTrip a own b k s = s := by
  unfold takeTrip
  cases groupOfByte b with
  | none => rfl
  | some g =>
    dsimp only
    rw [if_neg h1, if_neg h2, ite_self]

theorem takeTrip_own_tripped : takeTrip a true b 1 s = s := by
  unfold takeTrip
  cases groupOfByte b with
  | none => rfl
  | some g => exact ite_self s

/-- A trip that a TRIPPED frame brings requests nothing (R55, R103). -/
theorem enterTripped_remote : enterTripped g (.remote a) s =
    let t := place g { s.voter.groups.get g with
      state := .tripped, cause := some (.remote a), confirm := .stopped, stamp := s.events.time } s
    raise (.groupTripped g (.remote a))
      (if (s.voter.groups.get g).state = .fault then raise (.groupFaultEnded g) t else t) := by
  simp [enterTripped, place, State.setGroup]

theorem takeTripped_of_followed (hf : (s.groupDesc g).follow = true) (hr : (s.voter.groups.get g).state ≠ .tripped) :
    takeTripped a false g s = enterTripped g (.remote a) s := by
  have hr : ((s.voter.groups.get g).state != .tripped) = true := bne_iff_ne.mpr hr
  simp [takeTripped, hf, hr]

theorem takeTripped_of_ignored (h : (s.groupDesc g).follow = false ∨ (s.voter.groups.get g).state = .tripped) :
    takeTripped a false g s = s := by
  rcases h with h | h <;> simp [takeTripped, h]

/-- What a TRIPPED frame of another station does at the group it names (R103). -/
theorem takeTrip_tripped_cases (a : Station) (hb : b.toNat = g.val) :
    let d := s.groupDesc g
    let r := s.voter.groups.get g
    let t := place g { r with
      state := .tripped, cause := some (.remote a), confirm := .stopped, stamp := s.events.time } s
    (d.used = false ∨ d.follow = false ∨ r.state = .tripped → takeTrip a false b 1 s = s) ∧
    (d.used = true → d.follow = true → r.state = .clear ∨ r.state = .arming →
      takeTrip a false b 1 s = raise (.groupTripped g (.remote a)) t) ∧
    (d.used = true → d.follow = true → r.state = .fault →
      takeTrip a false b 1 s = raise (.groupTripped g (.remote a)) (raise (.groupFaultEnded g) t)) := by
  refine ⟨fun h => ?_, fun hused hfollow hr => ?_, fun hused hfollow hr => ?_⟩
  · cases hused : (s.groupDesc g).used with
    | false => exact takeTrip_of_unused 1 hb hused
    | true =>
      rw [takeTrip_of_tripped hb hused]
      exact takeTripped_of_ignored (h.resolve_left (by simp [hused]))
  · rw [takeTrip_of_tripped hb hused, takeTripped_of_followed hfollow (by rcases hr with h | h <;> simp [h]),
      enterTripped_remote]
    dsimp only
    rw [if_neg (by rcases hr with h | h <;> simp [h])]
  · rw [takeTrip_of_tripped hb hused, takeTripped_of_followed hfollow (by simp [hr]), enterTripped_remote]
    dsimp only
    rw [if_pos hr]

theorem takeRelease_of_not_tripped (h : (s.voter.groups.get g).state ≠ .tripped) : takeRelease a g s = s := if_neg h

theorem takeRelease_of_satisfied (h : (s.voter.groups.get g).state = .tripped)
    (hsat : satisfied (s.groupDesc g) (s.voter.groups.get g) = true) :
    takeRelease a g s = refuseRelease a g .satisfied s := by simp [takeRelease, h, hsat]

theorem takeRelease_of_noBasis (h : (s.voter.groups.get g).state = .tripped)
    (hno : noBasis (s.groupDesc g) (s.voter.groups.get g) = true) :
    takeRelease a g s = refuseRelease a g .noBasis s := by simp [takeRelease, h, satisfied_of_noBasis hno, hno]

theorem takeRelease_of_accepted (h : (s.voter.groups.get g).state = .tripped)
    (hsat : satisfied (s.groupDesc g) (s.voter.groups.get g) = false)
    (hno : noBasis (s.groupDesc g) (s.voter.groups.get g) = false) : takeRelease a g s = acceptRelease a g s := by
  simp [takeRelease, h, hsat, hno]

theorem announce_announcedAgain (g : Group) (s : State) : announcedAgain g s (announce g s) :=
  ⟨announce_of_mem, announce_of_room, announce_of_full⟩

theorem refuseRelease_of_silent (why : RefusedReason) (h : (s.groupDesc g).announce = false) :
    refuseRelease a g why s = raise (.groupReleaseRefused g a why) s := by simp [refuseRelease, h]

theorem refuseRelease_of_announced (why : RefusedReason) (h : (s.groupDesc g).announce = true) :
    refuseRelease a g why s = announce g (raise (.groupReleaseRefused g a why) s) := by simp [refuseRelease, h]

/-- What a RELEASE frame does at the group it names (R108, R109). -/
theorem takeTrip_release_cases (a : Station) (own : Bool) (hb : b.toNat = g.val) :
    let d := s.groupDesc g
    let r := s.voter.groups.get g
    (d.used = false ∨ r.state ≠ .tripped → takeTrip a own b 2 s = s) ∧
    (d.used = true → r.state = .tripped →
      (satisfied d r = false → noBasis d r = false → takeTrip a own b 2 s =
        evaluate g (raise (.groupReleased g a) (place g { r with
          state := .clear, cause := none, confirm := .stopped, announceOwed := false, stamp := s.events.time } s))) ∧
      ∀ why, (why = .satisfied ∧ satisfied d r = true) ∨ (why = .noBasis ∧ noBasis d r = true) →
        takeTrip a own b 2 s = refuseRelease a g why s) := by
  refine ⟨fun h => ?_, fun hused hr => ⟨fun hsat hno => ?_, fun why h => ?_⟩⟩
  · cases hused : (s.groupDesc g).used with
    | false => exact takeTrip_of_unused 2 hb hused
    | true =>
      rw [takeTrip_of_release hb hused]
      exact takeRelease_of_not_tripped (h.resolve_left (by simp [hused]))
  · rw [takeTrip_of_release hb hused, takeRelease_of_accepted hr hsat hno]; rfl
  · rw [takeTrip_of_release hb hused]
    rcases h with ⟨rfl, h⟩ | ⟨rfl, h⟩
    · exact takeRelease_of_satisfied hr h
    · exact takeRelease_of_noBasis hr h

end

end Sys2Proof.Machine

end

section

namespace Sys2Proof.Proofs

open Sys2Proof.Machine Sys2Proof.Safety

/-- Settles O29, by what the receiver and the transmitter are doing. -/
theorem episodesRejected : Obligations.EpisodesRejected := by
  refine ⟨fun s bytes c hc => ?_, fun s bytes hears => ⟨fun hp c hc => ?_, fun hj => ?_, fun hj c hc => ?_⟩⟩
  · have hbusy : s.link.transmission = .jam ∨ s.link.transmission = .resetJam ∨
        (∃ f, s.link.transmission = .frame f ∧ f.bytes ≠ bytes) ∨
        s.link.transmission = .idle ∧ s.link.completion ≠ none →
        ¬ Free s ∧ ∀ f, s.link.transmission = .frame f → f.bytes ≠ bytes := by
      rintro (h | h | ⟨f, h, hb⟩ | ⟨h, hcomp⟩)
      · simp [Free, h]
      · simp [Free, h]
      · simpa [Free, h] using hb
      · simpa [Free, h] using hcomp
    have hother (effect : State → State) (heq : exec c s = .next (receiveOther effect s)) :
        (s.active = false → exec c s = .next s) ∧
        (s.active = true → s.link.ignoring = true →
          exec c s = .next { s with link := { s.link with ignoring := false } }) ∧
        (s.active = true → s.link.ignoring = false → _ → exec c s = .next s) :=
      ⟨fun h => heq.trans (congrArg _ (receiveOther_of_deaf h)),
        fun ha hi => heq.trans (congrArg _ (receiveOther_of_ignoring ha hi)),
        fun ha hi h => heq.trans (congrArg _ (receiveOther_of_busy ha hi (hbusy h).1))⟩
    rcases List.mem_cons.mp hc with rfl | hc
    · exact hother _ rfl
    rcases List.mem_cons.mp hc with rfl | hc
    · exact hother _ rfl
    rw [exec_frameCommand hc]
    exact ⟨fun h => congrArg _ (receiveFrame_of_deaf h), fun ha hi => congrArg _ (receiveFrame_of_ignoring ha hi),
      fun ha hi h => congrArg _ (receiveFrame_of_busy ha hi (hbusy h).1 (hbusy h).2)⟩
  · rw [exec_frameCommand hc, receiveFrame_of_hears hears, takeBytes, hp]
    rfl
  · exact ⟨congrArg Host.Outcome.next (receiveOther_of_hears hears hj),
      congrArg Host.Outcome.next (receiveOther_of_hears hears hj)⟩
  · simp only [List.mem_cons, List.not_mem_nil, or_false] at hc
    rcases hc with rfl | rfl
    · exact congrArg Host.Outcome.next (receiveOther_of_jammed hears hj)
    · exact congrArg Host.Outcome.next (receiveOther_of_jammed hears hj)

/-- Settles O30: with the loopback ruled out by its bytes, the own number and the sender's standing decide. -/
theorem duplicateAndDiscardedFrames : Obligations.DuplicateAndDiscardedFrames := by
  intro s bytes f c hc hears hp
  rw [exec_frameCommand hc, receiveFrame_of_parsed hears hp]
  refine ⟨fun hown hloop => ?_, fun hown hloop hkind hstate => ?_⟩
  · rw [owedLoopback_eq_false hloop, takeFrame_of_duplicate (by exact hown), setAnchor_endOwnEpisode]
  · rw [owedLoopback_eq_false hloop, takeFrame_of_foreign (by exact hown), setAnchor_endOwnEpisode,
      if_neg (by rw [admitted_eq hkind]; simpa using hstate)]

/-- Settles O42, by the group that the frame names and its state. -/
theorem trippedFrameFollowed : Obligations.TrippedFrameFollowed := by
  refine ⟨fun s bytes f b h hp => ?_, fun s bytes f b h hp => ?_, fun s bytes f b k h hp h1 h2 => ?_⟩
  · have hexec : exec (.trippedFrame bytes) s = .next (takeTrip f.sender false b 1 (admittedState f s)) := by
      refine congrArg Host.Outcome.next ((receiveFrame_of_partner h (by simp [hp, isPresence])).trans ?_)
      rw [dispatchFrame, hp]
    refine ⟨fun hb => hexec.trans (congrArg _ (takeTrip_of_no_group 1 hb)), fun g hb => ?_⟩
    obtain ⟨hno, hclear, hfault⟩ := takeTrip_tripped_cases (s := admittedState f s) f.sender hb
    exact ⟨fun h => hexec.trans (congrArg _ (hno h)), fun hu hf h => hexec.trans (congrArg _ (hclear hu hf h)),
      fun hu hf h => hexec.trans (congrArg _ (hfault hu hf h))⟩
  · refine congrArg Host.Outcome.next ((receiveFrame_of_own h).trans ?_)
    rw [dispatchFrame, hp]
    exact takeTrip_own_tripped
  · refine congrArg Host.Outcome.next ((receiveFrame_of_partner h (by simp [hp, isPresence])).trans ?_)
    rw [dispatchFrame, hp]
    exact takeTrip_of_other h1 h2

/-- Settles O43, by the group's state and its own votes. -/
theorem releaseFrameDecided : Obligations.ReleaseFrameDecided := by
  intro s u bytes f b hp h
  obtain ⟨own, hown⟩ := receiveFrame_of_taken (by simp [hp, isPresence]) h
  have hexec : exec (.releaseFrame bytes) s = .next (takeTrip f.sender own b 2 u) := by
    refine congrArg Host.Outcome.next (hown.trans ?_)
    rw [dispatchFrame, hp]
  obtain ⟨l, r', rfl⟩ := taken_eq h
  refine ⟨fun hb => hexec.trans (congrArg _ (takeTrip_of_no_group 2 hb)), fun g hb => ?_⟩
  obtain ⟨hno, htripped⟩ := takeTrip_release_cases (s := { s with link := l, roster := r' }) f.sender own hb
  refine ⟨fun h => hexec.trans (congrArg _ (hno h)), fun hused hr => ?_⟩
  obtain ⟨haccept, hrefuse⟩ := htripped hused hr
  refine ⟨fun hsat hb => hexec.trans (congrArg _ (haccept hsat hb)), fun why h => ⟨fun ha => ?_, fun ha => ⟨_, hexec, ?_⟩⟩⟩
  · exact hexec.trans (congrArg _ ((hrefuse why h).trans (refuseRelease_of_silent why ha)))
  · rw [hrefuse why h, refuseRelease_of_announced (s := { s with link := l, roster := r' }) why ha]
    exact announce_announcedAgain g _

/-- Settles O44, by the comparison of the digests. -/
theorem presenceSetsStanding : Obligations.PresenceSetsStanding := by
  refine ⟨fun s bytes f digest ps ns h hp => ?_, fun s bytes f digest ps ns h hp => ?_⟩
  · have hexec : exec (.presenceFrame bytes) s =
        .next (takePresence f.sender false digest ps ns { s with link := anchored f s.link }) :=
      congrArg Host.Outcome.next (receiveFrame_of_presence h hp)
    have hlink : anchored f s.link = { s.link with backgroundAnchor := f.sender, jammed := false } := by
      rw [anchored, anchorOf, hp, ← h.2.1]
    intro l stand
    have hstand (st : RosterState) (timer : Timer) :
        setStanding f.sender { state := st, lastDigest := some digest, silence := timer }
          { s with link := anchored f s.link } = stand st timer := by
      rw [setStanding, reexamineStation_eq, hlink]
      rfl
    rw [hexec]
    refine ⟨fun hd => congrArg _ ?_, fun hd => congrArg _ ?_⟩
    · rw [takePresence, if_neg (by simp)]
      dsimp only
      rw [compareDigest, if_neg hd, if_neg hd, hstand]
    · rw [takePresence, if_neg (by simp)]
      dsimp only
      rw [compareDigest, if_pos hd, if_pos hd, hstand]
      rfl
  · refine congrArg Host.Outcome.next ((receiveFrame_of_own h).trans ?_)
    rw [dispatchFrame, hp, ← h.2.2.2]
    rfl

end Sys2Proof.Proofs

end

/-! The custody triggers, RECLAIM frames, and records taken in order. -/

section

namespace Sys2Proof.Machine

open Sys2Proof.Safety

/-! ### Offers and EPOCH_LIMIT (R75, R80, R133) -/

theorem offer_of_mem {r : Request} {s : State} (h : r ∈ s.link.urgent) : offer r s = s := by rw [offer, offerTo_of_mem h]; rfl

theorem offer_of_room {r : Request} {s : State} (h : r ∉ s.link.urgent) (hroom : s.link.urgent.length < 8) :
    offer r s = s.withUrgent (s.link.urgent ++ [r]) := by rw [offer, offerTo_of_room h hroom]

theorem offer_of_full {r : Request} {s : State} (h : r ∉ s.link.urgent) (hfull : 8 ≤ s.link.urgent.length) : offer r s = s := by
  rw [offer, offerTo_of_full h hfull]

theorem offer_offered (r : Request) (s : State) : offered r s (offer r s) := ⟨offer_of_mem, offer_of_room, offer_of_full⟩

section

variable {s u : State} {i : Input} {c c' : CustodyEntry}

theorem reportLimit_eq (hc : s.custody.table.get i = some c) : reportLimit i s = limitReport i c s := by
  rw [reportLimit, hc]; rfl

/-- EPOCH_LIMIT is reported once (R80). -/
theorem reportLimit_limitReport (hc : s.custody.table.get i = some c) :
    reportLimit i (limitReport i c s) = limitReport i c s := by
  cases hl : c.limitReported with
  | true =>
    have h : limitReport i c s = s := if_pos hl
    rw [h, reportLimit_eq hc, h]
  | false =>
    have hget : (limitReport i c s).custody.table.get i = some { c with limitReported := true } := by simp [limitReport, hl]
    rw [reportLimit_eq hget]
    exact if_pos rfl

/-! ### The triggers of one entry (R76 to R78) -/

/-- The test of the claim triggers, marks and timers included (R76, R77). -/
def ClaimDueNow (s : State) (i : Input) (c : CustodyEntry) : Prop :=
  s.claimHolds i c = true ∧ c.claimRetry = .stopped ∧ c.claimDue = false

/-- The test of the reclaim trigger, mark and timers included (R78). -/
def ReclaimDueNow (s : State) (c : CustodyEntry) : Prop :=
  s.reclaimHolds c = true ∧ c.holdoff = .stopped ∧ c.reclaimWait = .stopped ∧ c.reclaimDue = false

theorem claimTrigger_of_not (hc : s.custody.table.get i = some c) (h : ¬ ClaimDueNow s i c) : claimTrigger i s = s := by
  rw [claimTrigger, hc]
  exact if_neg (by simpa [ClaimDueNow, and_assoc] using h)

theorem claimTrigger_of_limit (hc : s.custody.table.get i = some c) (h : ClaimDueNow s i c)
    (he : (s.mirror.get c.point).epoch = 65535#16) : claimTrigger i s = limitReport i c s := by
  rw [claimTrigger, hc]
  exact (if_pos (by simpa [ClaimDueNow, and_assoc] using h)).trans ((if_pos he).trans (reportLimit_eq hc))

theorem claimTrigger_of_due (hc : s.custody.table.get i = some c) (h : ClaimDueNow s i c)
    (he : (s.mirror.get c.point).epoch ≠ 65535#16) :
    claimTrigger i s = offer .claim (s.setCustody i { c with claimDue := true }) := by
  rw [claimTrigger, hc]
  exact (if_pos (by simpa [ClaimDueNow, and_assoc] using h)).trans (if_neg he)

theorem reclaimTrigger_of_not (hc : s.custody.table.get i = some c) (h : ¬ ReclaimDueNow s c) : reclaimTrigger i s = s := by
  rw [reclaimTrigger, hc]
  exact if_neg (by simpa [ReclaimDueNow, and_assoc] using h)

theorem reclaimTrigger_of_limit (hc : s.custody.table.get i = some c) (h : ReclaimDueNow s c)
    (he : (s.mirror.get c.point).epoch = 65535#16) : reclaimTrigger i s = reportLimit i s := by
  rw [reclaimTrigger, hc]
  exact (if_pos (by simpa [ReclaimDueNow, and_assoc] using h)).trans (if_pos he)

theorem reclaimTrigger_of_due (hc : s.custody.table.get i = some c) (h : ReclaimDueNow s c)
    (he : (s.mirror.get c.point).epoch ≠ 65535#16) :
    reclaimTrigger i s = offer .reclaim (s.setCustody i { c with reclaimDue := true }) := by
  rw [reclaimTrigger, hc]
  exact (if_pos (by simpa [ReclaimDueNow, and_assoc] using h)).trans (if_neg he)

/-- The reclaim trigger reads the image, the mirror and the roster, which another trigger leaves (R78). -/
theorem ReclaimDueNow.congr (h : TriggerStep s u) : ReclaimDueNow u c ↔ ReclaimDueNow s c := by
  unfold ReclaimDueNow State.reclaimHolds State.otherOwns State.otherState State.desc
  rw [h.control, h.mirror, h.roster]

theorem offer_custody (r : Request) (s : State) : (offer r s).custody = s.custody := by rw [offer_eq]; rfl

/-- The entry after the claim triggers: the claim due and the limit-reported mark alone may move (R76, R77, R80). -/
theorem claimTrigger_entry (hc : s.custody.table.get i = some c) :
    ∃ due limit, (claimTrigger i s).custody.table.get i = some { c with claimDue := due, limitReported := limit } := by
  by_cases hd : ClaimDueNow s i c
  · by_cases he : (s.mirror.get c.point).epoch = 65535#16
    · rw [claimTrigger_of_limit hc hd he, limitReport]
      split
      · exact ⟨_, _, hc⟩
      · exact ⟨c.claimDue, true, by simp⟩
    · rw [claimTrigger_of_due hc hd he, offer_custody]
      exact ⟨true, c.limitReported, by simp⟩
  · rw [claimTrigger_of_not hc hd]
    exact ⟨_, _, hc⟩

theorem reexamine_of_not_run (h : s.control.state ≠ .run) : reexamine i s = s := if_neg h

/-- With the reclaim trigger ruled out, a re-examination in RUN is the claim triggers' (R75). -/
theorem reexamine_of_no_reclaim (hrun : s.control.state = .run) (hc : s.custody.table.get i = some c)
    (h : ¬ ReclaimDueNow s c) : reexamine i s = claimTrigger i s := by
  obtain ⟨due, limit, hget⟩ := claimTrigger_entry hc
  have hnot : ¬ ReclaimDueNow (claimTrigger i s) { c with claimDue := due, limitReported := limit } := by
    rw [ReclaimDueNow.congr (claimTrigger_triggerStep i s)]
    exact h
  exact (if_pos hrun).trans (reclaimTrigger_of_not hget hnot)

/-- The claim triggers and no reclaim, by the test and the epoch (R76, R77, R80). -/
theorem reexamine_claim_cases (hc : s.custody.table.get i = some c) (hno : s.control.state = .run → ¬ ReclaimDueNow s c) :
    let holds := s.control.state = .run ∧ ClaimDueNow s i c
    (¬ holds → reexamine i s = s) ∧
    (holds → (s.mirror.get c.point).epoch = 65535#16 → reexamine i s = limitReport i c s) ∧
    (holds → (s.mirror.get c.point).epoch ≠ 65535#16 → offered .claim { s with
      custody := { s.custody with table := s.custody.table.set i (some { c with claimDue := true }) } } (reexamine i s)) := by
  refine ⟨fun h => ?_, fun ⟨hrun, hd⟩ he => ?_, fun ⟨hrun, hd⟩ he => ?_⟩
  · by_cases hrun : s.control.state = .run
    · rw [reexamine_of_no_reclaim hrun hc (hno hrun)]
      exact claimTrigger_of_not hc fun hd => h ⟨hrun, hd⟩
    · exact reexamine_of_not_run hrun
  · rw [reexamine_of_no_reclaim hrun hc (hno hrun), claimTrigger_of_limit hc hd he]
  · rw [reexamine_of_no_reclaim hrun hc (hno hrun), claimTrigger_of_due hc hd he]
    exact offer_offered .claim _

theorem away_iff (x : RosterState) : x.away = true ↔ x = .absent ∨ x = .silent ∨ x = .mismatched := by
  cases x <;> simp [RosterState.away]

theorem claimDueNow_of_standby (hrole : c.role = .standby) : ClaimDueNow s i c ↔
    (∃ h, (s.desc c.point).homeStation = some h ∧ (s.mirror.get c.point).owner = some h ∧
      ((s.roster.entries.get h).state = .absent ∨ (s.roster.entries.get h).state = .silent ∨
        (s.roster.entries.get h).state = .mismatched)) ∧
    (s.contexts.get i).quality ≠ .none ∧ c.claimRetry = .stopped ∧ c.claimDue = false := by
  cases hh : (s.desc c.point).homeStation with
  | none => simp [ClaimDueNow, State.claimHolds, State.otherOwns, otherStation, hrole, hh]
  | some h =>
    simp [ClaimDueNow, State.claimHolds, State.otherOwns, State.otherState, otherStation, hrole, hh, away_iff, and_assoc]

theorem claimDueNow_of_home {b : Station} (hrole : c.role = .home) (hb : (s.desc c.point).standbyStation = some b) :
    ClaimDueNow s i c ↔ (s.mirror.get c.point).owner = some b ∧
      ((s.roster.entries.get b).state = .absent ∨ (s.roster.entries.get b).state = .silent ∨
        (s.roster.entries.get b).state = .mismatched ∨ c.lapsed = true) ∧
      c.claimRetry = .stopped ∧ c.claimDue = false := by
  simp [ClaimDueNow, State.claimHolds, State.otherOwns, State.otherState, otherStation, hrole, hb, away_iff, and_assoc, or_assoc]

theorem reclaimDueNow_of_home {b : Station} (hrole : c.role = .home) (hb : (s.desc c.point).standbyStation = some b) :
    ReclaimDueNow s c ↔ (s.mirror.get c.point).owner = some b ∧ (s.roster.entries.get b).state = .present ∧
      c.holdoff = .stopped ∧ c.reclaimWait = .stopped ∧ c.reclaimDue = false := by
  simp [ReclaimDueNow, State.reclaimHolds, State.otherOwns, State.otherState, otherStation, hrole, hb, and_assoc]

theorem not_reclaimDueNow_of_standby (hrole : c.role = .standby) : ¬ ReclaimDueNow s c := by
  simp [ReclaimDueNow, State.reclaimHolds, hrole]

theorem not_dueNow_of_no_standby (hrole : c.role = .home) (hb : (s.desc c.point).standbyStation = none) :
    ¬ ClaimDueNow s i c ∧ ¬ ReclaimDueNow s c := by
  simp [ClaimDueNow, ReclaimDueNow, State.claimHolds, State.reclaimHolds, State.otherOwns, otherStation, hrole, hb]

/-- Where both triggers find the last epoch, the claim's report stands for both (R80; log entry 10). -/
theorem reclaimTrigger_limitReport (hc : s.custody.table.get i = some c) (hd : ReclaimDueNow s c)
    (he : (s.mirror.get c.point).epoch = 65535#16) : reclaimTrigger i (limitReport i c s) = limitReport i c s := by
  have hget : ∃ l, (limitReport i c s).custody.table.get i = some { c with limitReported := l } := by
    rw [limitReport]
    split
    · exact ⟨_, hc⟩
    · exact ⟨true, by simp⟩
  obtain ⟨l, hget⟩ := hget
  have hstep : TriggerStep s (limitReport i c s) := reportLimit_eq hc ▸ reportLimit_triggerStep i s
  rw [reclaimTrigger_of_limit hget ((ReclaimDueNow.congr hstep).mpr hd) (by rw [hstep.mirror]; exact he),
    reportLimit_limitReport hc]

/-- Where both triggers set their marks, the claim first (R77, R78; log entry 10). -/
theorem reclaimTrigger_after_claim (hd : ReclaimDueNow s c)
    (he : (s.mirror.get c.point).epoch ≠ 65535#16) :
    let u := offer .claim (s.setCustody i { c with claimDue := true })
    reclaimTrigger i u = offer .reclaim { u with
      custody := { u.custody with
        table := s.custody.table.set i (some { c with claimDue := true, reclaimDue := true }) } } := by
  intro u
  have hcustody : u.custody = (s.setCustody i { c with claimDue := true }).custody := offer_custody _ _
  have hget : u.custody.table.get i = some { c with claimDue := true } := by rw [hcustody]; simp
  have hstep : TriggerStep s u := (setCustody_triggerStep i _ s).trans (offer_triggerStep _ _)
  rw [reclaimTrigger_of_due hget ((ReclaimDueNow.congr hstep).mpr hd) (by rw [hstep.mirror]; exact he)]
  have htable : u.custody.table.set i (some { c with claimDue := true, reclaimDue := true }) =
      s.custody.table.set i (some { c with claimDue := true, reclaimDue := true }) := by rw [hcustody]; simp
  rw [State.setCustody, htable]

end

/-! ### RECLAIM frames (R79) -/

section

variable {s : State} {p : Point} {i : Input} {c : CustodyEntry}

theorem custodyInput_of_boundAt (h : BoundAt s p i c) : s.custodyInput p = some i := by
  obtain ⟨-, -, hc, hp, huniq, -⟩ := h
  refine find?_finRange_eq_some (by simp [hc, hp]) fun j hj => ?_
  cases hx : s.custody.table.get j with
  | none => rfl
  | some x =>
    have hne : x.point ≠ p := fun hp' => absurd (huniq j x hx hp') (ne_of_lt hj)
    simpa using hne

theorem boundInput_of_boundAt (h : BoundAt s p i c) : s.boundInput p = some i := by
  obtain ⟨hp, huniq, -⟩ := h
  exact find?_finRange_eq_some (by simp [hp]) fun j hj => by
    simpa using fun hp' => absurd (huniq j hp') (ne_of_lt hj)

theorem markYield_of_limit (hc : s.custody.table.get i = some c) (hrole : c.role ≠ .home)
    (he : (s.mirror.get c.point).epoch = 65535#16) : markYield i s = limitReport i c s := by
  rw [markYield, hc]
  exact (if_neg hrole).trans ((if_pos he).trans (reportLimit_eq hc))

theorem markYield_of_marked (hc : s.custody.table.get i = some c) (hrole : c.role ≠ .home)
    (he : (s.mirror.get c.point).epoch ≠ 65535#16) (hdue : c.yieldDue = true) : markYield i s = s := by
  rw [markYield, hc]
  exact (if_neg hrole).trans ((if_neg he).trans (if_pos hdue))

theorem markYield_of_due (hc : s.custody.table.get i = some c) (hrole : c.role ≠ .home)
    (he : (s.mirror.get c.point).epoch ≠ 65535#16) (hdue : c.yieldDue = false) :
    markYield i s = offer .yield (s.setCustody i { c with yieldDue := true }) := by
  rw [markYield, hc]
  exact (if_neg hrole).trans ((if_neg he).trans (if_neg (by simp [hdue])))

theorem takeReclaimPoint_of_not {a : Station} {b : Byte} (hb : pointOfByte b = some p)
    (h : ¬ ((s.desc p).homeStation = some a ∧ (s.mirror.get p).inUse = true ∧ (s.mirror.get p).owner = some s.own)) :
    takeReclaimPoint a s b = s := by
  rw [takeReclaimPoint, hb]
  exact if_neg (by simpa [State.ownsPoint] using h)

theorem takeReclaimPoint_of_asked {a : Station} {b : Byte} (hb : pointOfByte b = some p) (hbound : BoundAt s p i c)
    (hhome : (s.desc p).homeStation = some a) (howner : (s.mirror.get p).owner = some s.own) :
    takeReclaimPoint a s b = markYield i s := by
  have huse : (s.mirror.get p).inUse = true := hbound.2.2.2.2.2.1
  rw [takeReclaimPoint, hb]
  refine (if_pos (by simp [State.ownsPoint, hhome, huse, howner])).trans ?_
  rw [custodyInput_of_boundAt hbound]

theorem takeReclaimPoint_of_no_entry {a : Station} {b : Byte} (hb : pointOfByte b = some p)
    (h : ∀ i c, s.custody.table.get i = some c → c.point ≠ p) : takeReclaimPoint a s b = s := by
  have hnone : s.custodyInput p = none := find?_finRange_eq_none fun i => by
    cases hc : s.custody.table.get i with
    | none => rfl
    | some c => simpa using h i c hc
  rw [takeReclaimPoint, hb]
  dsimp only
  rw [hnone, ite_self]

end

/-! ### Records without effect (R10, R66, R67, R131) -/

section

variable {d : PointDesc} {e : MirrorEntry} {a : Station} {p : Point} {r : Record} {x : CustodyRecord} {s : State}

theorem serves_eq_false (h : d.homeStation ≠ some a ∧ d.standbyStation ≠ some a) : d.serves a = false := by
  simp [PointDesc.serves, h]

theorem serves_eq_true (h : d.homeStation = some a ∨ d.standbyStation = some a) : d.serves a = true := by
  simpa [PointDesc.serves] using h

theorem acceptance_foreign (ep : Epoch) (n : Bool)
    (h : e.inUse = false ∨ d.homeStation ≠ some a ∧ d.standbyStation ≠ some a) : acceptance d e a ep n = .foreign :=
  if_pos (h.imp_right serves_eq_false)

theorem yieldAcceptance_foreign (ep : Epoch) (h : e.inUse = false ∨ d.standbyStation ≠ some a) :
    yieldAcceptance d e a ep = .foreign := if_pos h

theorem hitOfCode_eq_none : ∀ {b : BitVec 3}, 5 ≤ b.toNat → hitOfCode b = none := by decide

theorem candidateOfCode_eq_none : ∀ {b : BitVec 4}, 4 ≤ b.toNat → candidateOfCode b = none := by decide

theorem recordContent_eq_none {m : PublishMode} (h : 5 ≤ r.hit.toNat ∨ r.quality = .good ∧ r.value = none ∧ m ≠ .hitOnly) :
    recordContent m r = none := by
  rcases h with h | h
  · rw [recordContent, hitOfCode_eq_none h]
  · unfold recordContent
    cases hitOfCode r.hit with
    | none => rfl
    | some x => exact if_pos h

theorem handoverOf_eq_none {w : Debounce} (h : 4 ≤ w.candidate.toNat) : handoverOf w = none := by
  rw [handoverOf, candidateOfCode_eq_none h]; rfl

theorem option_cases {α : Type} (o : Option α) : o = none ∨ ∃ x, o = some x := by cases o <;> simp

theorem takePointRecord_of_no_point (hp : pointOfByte r.point = none) : takePointRecord a s r = s := by
  rw [takePointRecord, hp]

theorem takePointRecord_of_no_content (hp : pointOfByte r.point = some p) (h : recordContent (s.desc p).publish r = none) :
    takePointRecord a s r = s := by
  rw [takePointRecord, hp]
  dsimp only
  rw [h]

theorem takePointRecord_of_content {y : Content} (hp : pointOfByte r.point = some p)
    (h : recordContent (s.desc p).publish r = some y) : takePointRecord a s r =
      applyVerdict p (acceptance (s.desc p) (s.mirror.get p) a r.epoch false)
        { content := some y, handover := none, isYield := false } s := by
  rw [takePointRecord, hp]
  dsimp only
  rw [h]

theorem takePointRecord_of_foreign (hp : pointOfByte r.point = some p)
    (h : acceptance (s.desc p) (s.mirror.get p) a r.epoch false = .foreign) : takePointRecord a s r = s := by
  rcases option_cases (recordContent (s.desc p).publish r) with hy | ⟨y, hy⟩
  · exact takePointRecord_of_no_content hp hy
  · rw [takePointRecord_of_content hp hy, h]; rfl

theorem takeClaimRecord_of_no_point (hp : pointOfByte x.record.point = none) : takeClaimRecord a s x = s := by
  rw [takeClaimRecord, hp]

theorem takeClaimRecord_of_malformed (hp : pointOfByte x.record.point = some p)
    (h : recordContent (s.desc p).publish x.record = none ∨ handoverOf x.debounce = none) : takeClaimRecord a s x = s := by
  rw [takeClaimRecord, hp]
  dsimp only
  rcases h with h | h <;> rw [h]
  cases recordContent (s.desc p).publish x.record <;> rfl

theorem takeClaimRecord_of_content {y : Content} {w : Handover} (hp : pointOfByte x.record.point = some p)
    (h : recordContent (s.desc p).publish x.record = some y) (hw : handoverOf x.debounce = some w) : takeClaimRecord a s x =
      applyVerdict p (acceptance (s.desc p) (s.mirror.get p) a x.record.epoch false)
        { content := some y, handover := some w, isYield := false } s := by
  rw [takeClaimRecord, hp]
  dsimp only
  rw [h, hw]

theorem takeClaimRecord_of_foreign (hp : pointOfByte x.record.point = some p)
    (h : acceptance (s.desc p) (s.mirror.get p) a x.record.epoch false = .foreign) : takeClaimRecord a s x = s := by
  rcases option_cases (recordContent (s.desc p).publish x.record) with hy | ⟨y, hy⟩
  · exact takeClaimRecord_of_malformed hp (.inl hy)
  · rcases option_cases (handoverOf x.debounce) with hw | ⟨w, hw⟩
    · exact takeClaimRecord_of_malformed hp (.inr hw)
    · rw [takeClaimRecord_of_content hp hy hw, h]; rfl

theorem takeYieldRecord_of_no_point (hp : pointOfByte x.record.point = none) : takeYieldRecord a s x = s := by
  rw [takeYieldRecord, hp]

theorem takeYieldRecord_of_malformed (hp : pointOfByte x.record.point = some p)
    (h : recordContent (s.desc p).publish x.record = none ∨ handoverOf x.debounce = none) : takeYieldRecord a s x = s := by
  rw [takeYieldRecord, hp]
  dsimp only
  rcases h with h | h <;> rw [h]
  cases recordContent (s.desc p).publish x.record <;> rfl

theorem takeYieldRecord_of_content {y : Content} {w : Handover} (hp : pointOfByte x.record.point = some p)
    (h : recordContent (s.desc p).publish x.record = some y) (hw : handoverOf x.debounce = some w) : takeYieldRecord a s x =
      applyVerdict p (yieldAcceptance (s.desc p) (s.mirror.get p) a x.record.epoch)
        { content := some y, handover := some w, isYield := true } s := by
  rw [takeYieldRecord, hp]
  dsimp only
  rw [h, hw]

theorem takeYieldRecord_of_foreign (hp : pointOfByte x.record.point = some p)
    (h : yieldAcceptance (s.desc p) (s.mirror.get p) a x.record.epoch = .foreign) : takeYieldRecord a s x = s := by
  rcases option_cases (recordContent (s.desc p).publish x.record) with hy | ⟨y, hy⟩
  · exact takeYieldRecord_of_malformed hp (.inl hy)
  · rcases option_cases (handoverOf x.debounce) with hw | ⟨w, hw⟩
    · exact takeYieldRecord_of_malformed hp (.inr hw)
    · rw [takeYieldRecord_of_content hp hy hw, h]; rfl

theorem takeStatement_of_no_point {b : Byte} (o : Option Station) (ep : Epoch) (n : Bool) (hb : pointOfByte b = none) :
    takeStatement b o ep n s = s := by
  unfold takeStatement
  rw [hb]

theorem takeStatement_of_no_station {b : Byte} (ep : Epoch) (n : Bool) : takeStatement b none ep n s = s := by
  unfold takeStatement
  cases pointOfByte b <;> rfl

theorem takeStatement_of_some {b : Byte} (ep : Epoch) (n : Bool) (hb : pointOfByte b = some p) :
    takeStatement b (some a) ep n s = applyVerdict p (acceptance (s.desc p) (s.mirror.get p) a ep n)
      { content := none, handover := none, isYield := false } s := by
  unfold takeStatement
  rw [hb]

end

end Sys2Proof.Machine

end

section

namespace Sys2Proof.Proofs

open Sys2Proof.Machine Sys2Proof.Safety

/-- Settles O26: where the reclaim trigger is ruled out, the claim triggers decide. -/
theorem claimTriggers : Obligations.ClaimTriggers := by
  refine ⟨fun s i h => reexamine_of_not_run h, fun s i c hc hrole hb => ?_, fun s i c hc hrole => ?_,
    fun s i c b hc hrole hb hno => ?_⟩
  · obtain ⟨hclaim, hreclaim⟩ := not_dueNow_of_no_standby (i := i) hrole hb
    exact (reexamine_claim_cases hc fun _ => hreclaim).1 fun h => hclaim h.2
  · have h := reexamine_claim_cases hc fun _ => not_reclaimDueNow_of_standby hrole
    simp only [claimDueNow_of_standby hrole] at h
    exact h
  · have h := reexamine_claim_cases hc fun _ => by
      rw [reclaimDueNow_of_home hrole hb]
      rintro ⟨-, hpresent, hhold, hwait, hdue⟩
      simp [hpresent, hhold, hwait, hdue] at hno
    simp only [claimDueNow_of_home hrole hb] at h
    exact h

/-- Settles O27: the claim triggers first, which leave what the reclaim trigger reads. -/
theorem homeReclaimTrigger : Obligations.HomeReclaimTrigger := by
  intro s i c b hc hrole hb hpresent e holds claimsToo
  have hreclaim : holds ↔ s.control.state = .run ∧ ReclaimDueNow s c := by
    simp only [holds, e, reclaimDueNow_of_home hrole hb, hpresent, true_and]
  have hclaim : claimsToo ↔ s.control.state = .run ∧ ClaimDueNow s i c := by
    simp only [claimsToo, e, claimDueNow_of_home hrole hb, hpresent, reduceCtorEq, false_or]
  rw [hreclaim, hclaim]
  refine ⟨fun hno hno' => ?_, fun ⟨hrun, hd⟩ he => ?_, fun ⟨hrun, hd⟩ hno he => ?_, fun ⟨hrun, hd⟩ ⟨_, hd'⟩ he => ?_⟩
  · exact (reexamine_claim_cases hc fun hrun h => hno ⟨hrun, h⟩).1 hno'
  · refine (if_pos hrun).trans ?_
    by_cases hd' : ClaimDueNow s i c
    · rw [claimTrigger_of_limit hc hd' he, reclaimTrigger_limitReport hc hd he]
    · rw [claimTrigger_of_not hc hd', reclaimTrigger_of_limit hc hd he, reportLimit_eq hc]
  · refine Eq.subst (motive := offered .reclaim _) ?_ (offer_offered .reclaim _)
    exact (reclaimTrigger_of_due hc hd he).symm.trans ((if_pos hrun).trans (by
      rw [claimTrigger_of_not hc fun h => hno ⟨hrun, h⟩])).symm
  · refine ⟨_, offer_offered .claim _, ?_⟩
    have heq : reexamine i s = _ := (if_pos hrun).trans
      ((congrArg (reclaimTrigger i) (claimTrigger_of_due hc hd' he)).trans (reclaimTrigger_after_claim hd he))
    rw [heq]
    exact offer_offered .reclaim _

/-- Settles O41: the home asks, this station owns the point, and the epoch and the mark decide. -/
theorem reclaimMarksYield : Obligations.ReclaimMarksYield := by
  intro s bytes f b p i c h hp hb hbound u asked
  have hexec : exec (.reclaimFrame bytes) s = .next (takeReclaimPoint f.sender u b) := by
    refine congrArg Host.Outcome.next ((receiveFrame_of_partner h (by simp [hp, isPresence])).trans ?_)
    rw [dispatchFrame, hp]
    rfl
  have hboundu : BoundAt u p i c := hbound
  have hmark (hasked : asked) : exec (.reclaimFrame bytes) s = .next (markYield i u) :=
    hexec.trans (congrArg _ (takeReclaimPoint_of_asked hb hboundu hasked.1 hasked.2))
  obtain ⟨-, -, hc, hpoint, -, -, hhome, -, -⟩ := hboundu
  have hrole (hasked : asked) : c.role ≠ .home := fun hr =>
    h.1.2.2.2 (Option.some.inj (hasked.1.symm.trans (hhome.mp hr)))
  subst hpoint
  refine ⟨fun hno => hexec.trans (congrArg _ (takeReclaimPoint_of_not hb fun h => hno ⟨h.1, h.2.2⟩)), fun hasked he => ?_,
    fun hasked he hdue => ?_, fun hasked he hdue => ⟨_, hmark hasked, ?_⟩⟩
  · exact (hmark hasked).trans (congrArg _ (markYield_of_limit hc (hrole hasked) he))
  · exact (hmark hasked).trans (congrArg _ (markYield_of_marked hc (hrole hasked) he hdue))
  · rw [markYield_of_due hc (hrole hasked) he hdue]
    exact offer_offered .yield _

/-- Settles O31: the folds of `dispatchFrame`, and the records that a check or the acceptance rule drops. -/
theorem recordsTakenInOrder : Obligations.RecordsTakenInOrder := by
  refine ⟨fun s u bytes f h => ⟨fun rs hp => ?_, fun rs hp => ?_, fun rs hp => ?_, fun ps hp => ?_⟩, fun a s => ?_,
    fun b o e n s h => ?_⟩
  all_goals try
    obtain ⟨own, hown⟩ := receiveFrame_of_taken (by simp [hp, isPresence]) h
    refine congrArg Host.Outcome.next (hown.trans ?_)
    rw [dispatchFrame, hp]
  · intro malformed foreign
    have hcontent {p r} (h : malformed p r) : recordContent (s.desc p).publish r = none := recordContent_eq_none h
    have hpair {w} (h : 4 ≤ w.candidate.toNat) : handoverOf w = none := handoverOf_eq_none h
    refine ⟨fun r h => ?_, fun r h => ?_, fun r h => ?_, fun b h => ?_⟩
    · rcases option_cases (pointOfByte r.point) with hp | ⟨p, hp⟩
      · exact takePointRecord_of_no_point hp
      · rcases h p hp with h | h
        · exact takePointRecord_of_no_content hp (hcontent h)
        · exact takePointRecord_of_foreign hp (acceptance_foreign _ _ h)
    · rcases option_cases (pointOfByte r.record.point) with hp | ⟨p, hp⟩
      · exact takeClaimRecord_of_no_point hp
      · rcases h p hp with h | h | h
        · exact takeClaimRecord_of_malformed hp (.inl (hcontent h))
        · exact takeClaimRecord_of_malformed hp (.inr (hpair h))
        · exact takeClaimRecord_of_foreign hp (acceptance_foreign _ _ h)
    · rcases option_cases (pointOfByte r.record.point) with hp | ⟨p, hp⟩
      · exact takeYieldRecord_of_no_point hp
      · rcases h p hp with h | h | h | h
        · exact takeYieldRecord_of_malformed hp (.inl (hcontent h))
        · exact takeYieldRecord_of_malformed hp (.inr (hpair h))
        · exact takeYieldRecord_of_foreign hp (yieldAcceptance_foreign _ (h.imp_right And.right))
        · exact takeYieldRecord_of_foreign hp (yieldAcceptance_foreign _ (.inr h))
    · rcases option_cases (pointOfByte b) with hb | ⟨p, hb⟩
      · rw [takeReclaimPoint, hb]
      · rcases h p hb with h | h
        · exact takeReclaimPoint_of_no_entry hb h
        · refine takeReclaimPoint_of_not hb fun ⟨hhome, huse, howner⟩ => ?_
          simp [hhome, huse, howner] at h
  · rcases option_cases (pointOfByte b) with hb | ⟨p, hb⟩
    · exact takeStatement_of_no_point o e n hb
    · rcases option_cases o with rfl | ⟨a, rfl⟩
      · exact takeStatement_of_no_station e n
      · rw [takeStatement_of_some e n hb, acceptance_foreign e n (h p a hb rfl)]; rfl

end Sys2Proof.Proofs

end

/-! A decision of the acceptance rule applied: what is kept, the demotion, and the record write, in the terms of the
statements. -/

section

namespace Sys2Proof.Machine

open Sys2Proof.Safety

/-! ### The acceptance rule (R66, R67) -/

theorem maxEpoch_of_le {m e : Epoch} (h : m ≤ e) : maxEpoch m e = e := by
  unfold maxEpoch
  split
  next => rfl
  next hlt => exact BitVec.eq_of_toNat_eq (by have := BitVec.le_def.mp h; omega)

theorem maxEpoch_of_lt {m e : Epoch} (h : e < m) : maxEpoch m e = m :=
  if_neg (by have := BitVec.lt_def.mp h; omega)

section

variable {d : PointDesc} {x : MirrorEntry} {a h o : Station} {e : Epoch} {n : Bool}

theorem served (huse : x.inUse = true) (hserves : d.homeStation = some a ∨ d.standbyStation = some a) :
    ¬ (x.inUse = false ∨ d.serves a = false) := by simp [huse, serves_eq_true hserves]

theorem acceptance_same (huse : x.inUse = true) (hserves : d.homeStation = some a ∨ d.standbyStation = some a)
    (ho : x.owner = some a) : acceptance d x a e n = .accepted a (maxEpoch x.epoch e) (!n && decide (e < x.epoch)) := by
  have hlt : decide (e.toNat < x.epoch.toNat) = decide (e < x.epoch) := decide_eq_decide.mpr BitVec.lt_def.symm
  rw [acceptance, if_neg (served huse hserves), if_pos ho, hlt]

theorem acceptance_same_ge (huse : x.inUse = true) (hserves : d.homeStation = some a ∨ d.standbyStation = some a)
    (ho : x.owner = some a) (he : x.epoch ≤ e) : acceptance d x a e n = .accepted a e false := by
  have hlt : ¬ e < x.epoch := by simpa using he
  rw [acceptance_same huse hserves ho, maxEpoch_of_le he]
  simp [hlt]

theorem acceptance_same_lt (huse : x.inUse = true) (hserves : d.homeStation = some a ∨ d.standbyStation = some a)
    (ho : x.owner = some a) (he : e < x.epoch) : acceptance d x a e n = .accepted a x.epoch (!n) := by
  rw [acceptance_same huse hserves ho, maxEpoch_of_lt he]
  simp [he]

theorem acceptance_higher (huse : x.inUse = true) (hserves : d.homeStation = some a ∨ d.standbyStation = some a)
    (ho : x.owner = some o) (hne : a ≠ o) (he : x.epoch < e) : acceptance d x a e n = .accepted a e false := by
  rw [acceptance, if_neg (served huse hserves), if_neg (by simp [ho, hne.symm]), if_pos (BitVec.lt_def.mp he)]

theorem acceptance_tie (huse : x.inUse = true) (ho : x.owner = some o) (hne : a ≠ o) (he : e = x.epoch)
    (hhome : d.homeStation = some a) (hstandby : d.standbyStation = some o) : acceptance d x a e n = .accepted a e false := by
  rw [acceptance, if_neg (served huse (.inl hhome)), if_neg (by simp [ho, hne.symm]), if_neg (by simp [he]),
    if_pos ⟨he, hhome, by rw [ho, hstandby]⟩]

theorem acceptance_rejected (huse : x.inUse = true) (hserves : d.homeStation = some a ∨ d.standbyStation = some a)
    (ho : x.owner = some o) (hne : a ≠ o) (he : e ≤ x.epoch)
    (htie : ¬ (e = x.epoch ∧ d.homeStation = some a ∧ d.standbyStation = some o)) :
    acceptance d x a e n = .rejected (!n) := by
  have htie : ¬ (e = x.epoch ∧ d.homeStation = some a ∧ x.owner = d.standbyStation) := fun ⟨h1, h2, h3⟩ =>
    htie ⟨h1, h2, by rw [← h3, ho]⟩
  rw [acceptance, if_neg (served huse hserves), if_neg (by simp [ho, hne.symm]),
    if_neg (by have := BitVec.le_def.mp he; omega), if_neg htie]

theorem yieldAcceptance_home_ge (huse : x.inUse = true) (hs : d.standbyStation = some a) (hh : d.homeStation = some h)
    (ho : x.owner = some h) (he : x.epoch ≤ e) : yieldAcceptance d x a e = .accepted h e false := by
  have hlt : ¬ e.toNat < x.epoch.toNat := by have := BitVec.le_def.mp he; omega
  rw [yieldAcceptance, if_neg (by simp [huse, hs]), hh]
  refine (if_pos ho).trans ?_
  simp [maxEpoch_of_le he, hlt]

theorem yieldAcceptance_home_lt (huse : x.inUse = true) (hs : d.standbyStation = some a) (hh : d.homeStation = some h)
    (ho : x.owner = some h) (he : e < x.epoch) : yieldAcceptance d x a e = .accepted h x.epoch true := by
  rw [yieldAcceptance, if_neg (by simp [huse, hs]), hh]
  refine (if_pos ho).trans ?_
  simp [maxEpoch_of_lt he, BitVec.lt_def.mp he]

theorem yieldAcceptance_standby_ge (huse : x.inUse = true) (hs : d.standbyStation = some a) (hh : d.homeStation = some h)
    (hne : a ≠ h) (ho : x.owner = some a) (he : x.epoch ≤ e) : yieldAcceptance d x a e = .accepted h e false := by
  rw [yieldAcceptance, if_neg (by simp [huse, hs]), hh]
  exact (if_neg (by simp [ho, hne])).trans (if_pos ⟨ho, BitVec.le_def.mp he⟩)

theorem yieldAcceptance_standby_lt (huse : x.inUse = true) (hs : d.standbyStation = some a) (hh : d.homeStation = some h)
    (hne : a ≠ h) (ho : x.owner = some a) (he : e < x.epoch) : yieldAcceptance d x a e = .rejected true := by
  rw [yieldAcceptance, if_neg (by simp [huse, hs]), hh]
  exact (if_neg (by simp [ho, hne])).trans (if_neg fun hc => by have := BitVec.lt_def.mp he; omega)

end

/-! ### Owner, epoch and role (R30, R64, R69) -/

/-- Every context bound to the point has this role. -/
def BoundRole (s : State) (p : Point) (r : Role) : Prop := ∀ i, (s.contexts.get i).point = some p → (s.contexts.get i).role = r

/-- The role that an owner gives this station's context (R30). -/
def roleOf (s : State) (o : Station) : Role := if o = s.own then .acting else .shadow

/-- The entry of a point with another owner and epoch. -/
def moved (s : State) (p : Point) (o : Station) (e : Epoch) : State :=
  { s with mirror := s.mirror.set p { s.mirror.get p with owner := some o, epoch := e } }

section

variable {s t : State} {p : Point} {o a : Station} {e : Epoch} {i : Input} {c : CustodyEntry}

theorem roleFor_eq (ho : (s.mirror.get p).owner = some o) : roleFor s (some p) = roleOf s o := by
  unfold roleFor roleOf
  simp only [ho, Option.some.injEq]

theorem BoundRole.of_unbound {r : Role} (h : Unbound s p) : BoundRole s p r := fun i hi => absurd hi (h.1 i)

theorem setOwner_of_boundRole (h : BoundRole s p (roleOf s o)) : setOwner p o e s = moved s p o e := by
  have hc : s.contexts.map (fun c => if c.point = some p then { c with role := if o = s.own then .acting else .shadow } else c) =
      s.contexts := Table.ext_get fun i => by
    rw [Table.get_map]
    split
    next hi => rw [show (if o = s.own then Role.acting else .shadow) = (s.contexts.get i).role from (h i hi).symm]
    next => rfl
  unfold setOwner State.mapBound moved
  exact congrArg (fun x => { moved s p o e with contexts := x }) hc

theorem moved_same (ho : (s.mirror.get p).owner = some o) (he : (s.mirror.get p).epoch = e) : moved s p o e = s := by
  subst he
  have h : { s.mirror.get p with owner := some o } = s.mirror.get p := by rw [← ho]
  rw [moved, h, Table.set_get]

theorem setOwner_of_boundAt (h : BoundAt s p i c) : setOwner p o e s =
    { moved s p o e with contexts := s.contexts.set i { s.contexts.get i with role := roleOf s o } } := by
  obtain ⟨hp, huniq, -⟩ := h
  have hc : s.contexts.map (fun c => if c.point = some p then { c with role := if o = s.own then .acting else .shadow } else c) =
      s.contexts.set i { s.contexts.get i with role := roleOf s o } := Table.ext_get fun j => by
    rw [Table.get_map, Table.get_set]
    by_cases hj : j = i
    · subst hj
      rw [if_pos hp, if_pos rfl, roleOf]
    · rw [if_neg (fun hpj => hj (huniq j hpj)), if_neg hj]
  exact congrArg (fun x => { moved s p o e with contexts := x }) hc

theorem setOwner_boundRole (o : Station) (e : Epoch) : BoundRole (setOwner p o e s) p (roleOf s o) := by
  intro i hi
  rw [setOwner_point] at hi
  rw [setOwner_context, if_pos hi]
  rfl

theorem BoundRole.congr {r : Role} (h : BoundRole s p r) (hc : t.contexts = s.contexts) : BoundRole t p r := by
  intro i hi
  rw [hc] at hi ⊢
  exact h i hi

theorem actsFor_eq_false (h : BoundRole s p .shadow) : s.actsFor p = false := by
  unfold State.actsFor State.boundContext
  cases hi : s.boundInput p with
  | none => rfl
  | some i =>
    have hr := h i (boundInput_eq_some hi)
    simp [hr]

theorem actsFor_eq_true (h : BoundRole s p .acting) (hi : s.boundInput p = some i) : s.actsFor p = true := by
  unfold State.actsFor State.boundContext
  have hr := h i (boundInput_eq_some hi)
  simp [hi, hr]

/-! ### Custody entries of one point -/

/-- No custody entry is for the point. -/
def NoEntry (s : State) (p : Point) : Prop := ∀ i c, s.custody.table.get i = some c → c.point ≠ p

/-- The custody entry of input `i` is the only one for the point. -/
def OnlyEntry (s : State) (p : Point) (i : Input) (c : CustodyEntry) : Prop :=
  s.custody.table.get i = some c ∧ c.point = p ∧ ∀ j x, s.custody.table.get j = some x → x.point = p → j = i

theorem OnlyEntry.of_boundAt (h : BoundAt s p i c) : OnlyEntry s p i c := by
  obtain ⟨-, -, hc, hp, huniq, -⟩ := h
  exact ⟨hc, hp, huniq⟩

theorem OnlyEntry.congr (h : OnlyEntry s p i c) (ht : t.custody.table = s.custody.table) : OnlyEntry t p i c := by
  unfold OnlyEntry
  rw [ht]
  exact h

theorem NoEntry.congr (h : NoEntry s p) (ht : t.custody.table = s.custody.table) : NoEntry t p := by
  unfold NoEntry
  rw [ht]
  exact h

theorem OnlyEntry.set {c' : CustodyEntry} (h : OnlyEntry s p i c) (hp : c'.point = p)
    (ht : t.custody.table = s.custody.table.set i (some c')) : OnlyEntry t p i c' := by
  obtain ⟨hc, hpc, huniq⟩ := h
  refine ⟨by rw [ht]; simp, hp, fun j x hj hx => ?_⟩
  by_contra hne
  rw [ht, Table.get_set_ne _ _ hne] at hj
  exact hne (huniq j x hj hx)

theorem map_entry_of_none {f : CustodyEntry → CustodyEntry} (h : NoEntry s p) :
    s.custody.table.map (fun o => o.map (fun c => if c.point = p then f c else c)) = s.custody.table :=
  Table.ext_get fun i => by
    rw [Table.get_map]
    cases hc : s.custody.table.get i with
    | none => rfl
    | some c => simp [h i c hc]

theorem map_entry_of_only {f : CustodyEntry → CustodyEntry} (h : OnlyEntry s p i c) :
    s.custody.table.map (fun o => o.map (fun c => if c.point = p then f c else c)) = s.custody.table.set i (some (f c)) := by
  obtain ⟨hc, hp, huniq⟩ := h
  refine Table.ext_get fun j => ?_
  rw [Table.get_map, Table.get_set]
  by_cases hj : j = i
  · subst hj
    simp [hc, hp]
  · rw [if_neg hj]
    cases hx : s.custody.table.get j with
    | none => rfl
    | some x => simp [show x.point ≠ p from fun hxp => hj (huniq j x hx hxp)]

/-! ### Re-examination of one point -/

theorem reportLimit_others {j : Input} (hj : j ≠ i) (s : State) :
    (reportLimit i s).custody.table.get j = s.custody.table.get j := by
  unfold reportLimit
  split
  · split
    · rfl
    · simp [hj]
  · rfl

theorem claimTrigger_others {j : Input} (hj : j ≠ i) (s : State) :
    (claimTrigger i s).custody.table.get j = s.custody.table.get j := by
  unfold claimTrigger
  split
  · split
    · split
      · exact reportLimit_others hj s
      · rw [offer_custody]; simp [hj]
    · rfl
  · rfl

theorem reclaimTrigger_others {j : Input} (hj : j ≠ i) (s : State) :
    (reclaimTrigger i s).custody.table.get j = s.custody.table.get j := by
  unfold reclaimTrigger
  split
  · split
    · split
      · exact reportLimit_others hj s
      · rw [offer_custody]; simp [hj]
    · rfl
  · rfl

theorem reexamine_others {j : Input} (hj : j ≠ i) (s : State) :
    (reexamine i s).custody.table.get j = s.custody.table.get j := by
  unfold reexamine
  split
  · rw [reclaimTrigger_others hj, claimTrigger_others hj]
  · rfl

/-- One step of `reexamineWhere`. -/
def reexamineIf (f : CustodyEntry → Bool) (s : State) (i : Input) : State :=
  match s.custody.table.get i with
  | some c => if f c then reexamine i s else s
  | none => s

theorem reexamineWhere_eq (f : CustodyEntry → Bool) (s : State) : reexamineWhere f s = (List.finRange 8).foldl (reexamineIf f) s :=
  rfl

theorem reexamineIf_of_none {f : CustodyEntry → Bool} (h : ∀ c, s.custody.table.get i = some c → f c = false) :
    reexamineIf f s i = s := by
  unfold reexamineIf
  cases hc : s.custody.table.get i with
  | none => rfl
  | some c => exact if_neg (by simp [h c hc])

theorem foldl_reexamineIf_none {f : CustodyEntry → Bool} : ∀ (l : List Input) {s : State},
    (∀ i ∈ l, ∀ c, s.custody.table.get i = some c → f c = false) → l.foldl (reexamineIf f) s = s
  | [], _, _ => rfl
  | i :: l, s, h => by
    rw [List.foldl_cons, reexamineIf_of_none (h i (by simp))]
    exact foldl_reexamineIf_none l fun j hj => h j (by simp [hj])

theorem foldl_reexamineIf_only {f : CustodyEntry → Bool} : ∀ (l : List Input) {s : State}, l.Nodup → i ∈ l →
    (∃ c, s.custody.table.get i = some c ∧ f c = true) →
    (∀ j, j ≠ i → ∀ c, s.custody.table.get j = some c → f c = false) → l.foldl (reexamineIf f) s = reexamine i s
  | [], _, _, hi, _, _ => absurd hi (by simp)
  | j :: l, s, hl, hi, hc, hothers => by
    rw [List.foldl_cons]
    obtain ⟨hjl, hl⟩ := List.nodup_cons.mp hl
    by_cases hj : j = i
    · subst hj
      obtain ⟨c, hc, hf⟩ := hc
      have hstep : reexamineIf f s j = reexamine j s := by
        unfold reexamineIf
        rw [hc]
        exact if_pos hf
      rw [hstep]
      refine foldl_reexamineIf_none l fun k hk c hkc => ?_
      have hkj : k ≠ j := fun heq => hjl (heq ▸ hk)
      rw [reexamine_others hkj] at hkc
      exact hothers k hkj c hkc
    · rw [reexamineIf_of_none (hothers j hj)]
      exact foldl_reexamineIf_only l hl ((List.mem_cons.mp hi).resolve_left (Ne.symm hj)) hc hothers

theorem reexaminePoint_of_none (h : NoEntry s p) : reexaminePoint p s = s := by
  rw [reexaminePoint, reexamineWhere_eq]
  exact foldl_reexamineIf_none _ fun i _ c hc => by simpa using h i c hc

theorem reexaminePoint_of_only (h : OnlyEntry s p i c) : reexaminePoint p s = reexamine i s := by
  obtain ⟨hc, hp, huniq⟩ := h
  rw [reexaminePoint, reexamineWhere_eq]
  refine foldl_reexamineIf_only _ (List.nodup_finRange 8) (List.mem_finRange i) ⟨c, hc, by simp [hp]⟩ fun j hj x hx => ?_
  simpa using fun hxp => hj (huniq j x hx hxp)

/-- The last step of R69, for a point with one entry or with none. -/
theorem reexaminePoint_congr (h : OnlyEntry s p i c) (ht : t.custody.table = s.custody.table) :
    reexaminePoint p t = reexamine i t := reexaminePoint_of_only (h.congr ht)

end

/-! ### The record write (R10 to R12) -/

section

variable {s t : State} {p : Point} {o a : Station} {e : Epoch} {n : Bool} {r : Record} {h : Hit}

theorem placedHit_eq (d : PointDesc) (held carried : Hit) : recordHit d.publish held carried = placedHit d held carried := by
  cases carried <;> rfl

theorem placeNotice_eq (ho : (s.mirror.get p).owner = some o) : placeNotice p s =
    s.withNotices (placeIn s.custody.notices { point := p, owner := o, epoch := (s.mirror.get p).epoch }) := by
  rw [placeNotice, ho]

theorem placeNotice_frame (p : Point) (s : State) : ∃ l, placeNotice p s = s.withNotices l := by
  unfold placeNotice
  dsimp only
  split
  · exact ⟨_, rfl⟩
  · exact ⟨s.custody.notices, rfl⟩

theorem writeContent_of_none {w : Carried} (hw : w.content = none) (s : State) : writeContent p w s = s := by
  rw [writeContent, hw]

theorem writeContent_of_acting {w : Carried} (hs : s.actsFor p = true) : writeContent p w s = s := by
  unfold writeContent
  split
  · exact if_pos hs
  · rfl

theorem writeContent_of_shadow {w : Carried} {y : Content} (hw : w.content = some y) (hs : BoundRole s p .shadow) :
    writeContent p w s = recordWrite p y s := by
  rw [writeContent, hw]
  exact if_neg (by simp [actsFor_eq_false hs])

/-- A record write at a point of another owner passes a change to the voter alone (R10, R20, R21). -/
theorem recordWrite_eq (y : Content) (ho : (s.mirror.get p).owner ≠ some s.own) :
    let x := s.mirror.get p
    let x' := Safety.written x (s.desc p).freshness y.quality (recordHit (s.desc p).publish x.hit y.hit)
      (recordValue (s.desc p).publish y)
    recordWrite p y s = heardByVoter p x x' (s.setEntry p x') := by
  intro x x'
  rw [recordWrite, contentWrite_eq]
  exact if_neg ho

/-- The record write of a taken record, in the terms of the statements (R10, R69). -/
theorem recordWrite_taken (hown : o ≠ s.own) (he : e = if (s.mirror.get p).epoch < r.epoch then r.epoch else (s.mirror.get p).epoch)
    (hn : n = true → moved s p o e = s) :
    recordWrite p { quality := r.quality, hit := h, value := r.value }
      (if n then placeNotice p (moved s p o e) else moved s p o e) = contentTaken s p o r h n := by
  have hget : (moved s p o e).mirror.get p = { s.mirror.get p with owner := some o, epoch := e } := by simp [moved]
  have key (t : State) (hm : t.mirror = (moved s p o e).mirror) (hc : t.control = s.control) :
      recordWrite p { quality := r.quality, hit := h, value := r.value } t =
        (let x := s.mirror.get p
        let x' := Safety.written { x with owner := some o, epoch := e } (s.desc p).freshness r.quality
          (placedHit (s.desc p) x.hit h) (placedValue (s.desc p) r)
        heardByVoter p x x' { t with mirror := s.mirror.set p x' }) := by
    have hd : t.desc p = s.desc p := by rw [State.desc, hc]; rfl
    have ho : t.own = s.own := by rw [State.own, hc]; rfl
    rw [recordWrite_eq _ (by rw [hm, hget, ho]; simpa using hown), hm, hget, hd, State.setEntry, hm, placedHit_eq,
      show ∀ z, (moved s p o e).mirror.set p z = s.mirror.set p z from fun z => Table.set_set ..]
    rfl
  subst he
  cases n with
  | false =>
    simp only [Bool.false_eq_true, if_false]
    rw [key _ rfl rfl]
    rfl
  | true =>
    simp only [if_true]
    have hsame := hn rfl
    obtain ⟨l, hl⟩ := placeNotice_frame p s
    rw [hsame, key (placeNotice p s) (by rw [hl, hsame]; rfl) (by rw [hl]; rfl)]
    rfl

end

end Sys2Proof.Machine

end

/-! Decisions applied: the owner kept, a demotion, a promotion; assertions, YIELD records and notices. -/

section

namespace Sys2Proof.Machine

open Sys2Proof.Safety

/-! ### The steps of R69 -/

theorem applyVerdict_accepted (p : Point) (o : Station) (e : Epoch) (n : Bool) (w : Carried) (s : State) :
    applyVerdict p (.accepted o e n) w s =
      (let s1 := changeCustody p (s.mirror.get p) o e w (setOwner p o e s)
      let s3 := writeContent p w (if n then placeNotice p s1 else s1)
      if (s.mirror.get p).owner = some o ∧ (s.mirror.get p).epoch = e then s3 else reexaminePoint p s3) := rfl

section

variable {s t : State} {p : Point} {o a h : Station} {e : Epoch} {n : Bool} {i : Input} {c : CustodyEntry} {w : Carried}
  {r : Record} {x : Hit}

theorem changeCustody_kept (ho : (s.mirror.get p).owner = some o) : changeCustody p (s.mirror.get p) o e w t = t := if_pos ho

theorem changeCustody_demote (ho : (s.mirror.get p).owner = some t.own) (hne : o ≠ t.own) :
    changeCustody p (s.mirror.get p) o e w t = demote p o e (if w.isYield then .yielded else .demoted) t :=
  (if_neg (by simp [ho, hne.symm])).trans (if_pos ho)

theorem changeCustody_promote (ho : (s.mirror.get p).owner ≠ some t.own) :
    changeCustody p (s.mirror.get p) t.own e w t =
      promote p e (if w.isYield then .yield else .claim) (loadHandover p w t) :=
  (if_neg ho).trans ((if_neg ho).trans (if_pos rfl))

theorem changeCustody_other (ho : (s.mirror.get p).owner ≠ some t.own) (hne : o ≠ t.own) :
    changeCustody p (s.mirror.get p) o e w t = t := by
  unfold changeCustody
  rw [if_neg ho, if_neg hne, ite_self]

theorem placeNotice_contexts (p : Point) (s : State) : (placeNotice p s).contexts = s.contexts := by
  obtain ⟨l, hl⟩ := placeNotice_frame p s
  rw [hl]; rfl

theorem placeNotice_table (p : Point) (s : State) : (placeNotice p s).custody.table = s.custody.table := by
  obtain ⟨l, hl⟩ := placeNotice_frame p s
  rw [hl]; rfl

theorem contentTaken_table (n : Bool) : (contentTaken s p o r x n).custody.table = s.custody.table := by
  unfold contentTaken
  extract_lets y y' t u
  have ht : u.custody.table = s.custody.table := by
    show t.custody.table = _
    cases n with
    | true => exact placeNotice_table p s
    | false => rfl
  split
  · exact ht
  · rw [(passToVoter_voterStep p u).custody, ht]

/-- The owner set with no demotion and no promotion here: it stays, or no input is bound and it is elsewhere before and after. -/
def Quiet (s : State) (p : Point) (o : Station) : Prop :=
  BoundRole s p (roleOf s o) ∧
    ((s.mirror.get p).owner = some o ∨ (s.mirror.get p).owner ≠ some s.own ∧ o ≠ s.own)

theorem Quiet.change (h : Quiet s p o) : changeCustody p (s.mirror.get p) o e w (setOwner p o e s) = moved s p o e := by
  obtain ⟨hrole, ho⟩ := h
  rw [setOwner_of_boundRole hrole]
  rcases ho with ho | ⟨ho, hne⟩
  · exact changeCustody_kept ho
  · exact changeCustody_other ho hne

/-- A quiet decision without content, or with content that this station's own state outranks (R11, R69). -/
theorem applyVerdict_quiet (hq : Quiet s p o)
    (hw : w.content = none ∨ o = s.own ∧ s.boundInput p = some i) :
    applyVerdict p (.accepted o e n) w s =
      (let t := if n then placeNotice p (moved s p o e) else moved s p o e
      if (s.mirror.get p).owner = some o ∧ (s.mirror.get p).epoch = e then t else reexaminePoint p t) := by
  have hwrite (t : State) (ht : t.contexts = s.contexts) : writeContent p w t = t := by
    rcases hw with hw | ⟨rfl, hi⟩
    · exact writeContent_of_none hw t
    · refine writeContent_of_acting (actsFor_eq_true (i := i) ?_ ?_)
      · have := hq.1.congr ht
        rwa [roleOf, if_pos rfl] at this
      · rw [State.boundInput, ht]; exact hi
  rw [applyVerdict_accepted, hq.change]
  dsimp only
  rw [hwrite]
  cases n with
  | true => exact placeNotice_contexts p _
  | false => rfl

/-- A quiet decision with content at a point of another owner (R10, R69). -/
theorem applyVerdict_content (hq : Quiet s p o) (hown : o ≠ s.own)
    (hw : w.content = some { quality := r.quality, hit := x, value := r.value })
    (he : e = if (s.mirror.get p).epoch < r.epoch then r.epoch else (s.mirror.get p).epoch)
    (hn : n = true → moved s p o e = s) :
    applyVerdict p (.accepted o e n) w s =
      (let t := contentTaken s p o r x n
      if (s.mirror.get p).owner = some o ∧ (s.mirror.get p).epoch = e then t else reexaminePoint p t) := by
  have hrole : BoundRole s p .shadow := by simpa [roleOf, hown] using hq.1
  rw [applyVerdict_accepted, hq.change]
  dsimp only
  rw [writeContent_of_shadow hw, recordWrite_taken hown he hn]
  cases n with
  | true => exact hrole.congr (placeNotice_contexts p _)
  | false => exact hrole

/-! ### Demotion (R70, R86, R99) -/

/-- The state after a demotion, ahead of any record write, with the detail of its event. -/
def releasedState (s : State) (p : Point) (i : Input) (c : CustodyEntry) (a : Station) (e : Epoch) (how : ReleaseDetail) :
    State :=
  { demotedState s p i c a e with events := (raise (.pointReleased p e a how) s).events }

theorem raise_frame (ev : Event) (s : State) : raise ev s = { s with events := (raise ev s).events } := by
  rw [raise_eq]

theorem raise_events_congr {u : State} (ev : Event) (hc : t.control = u.control) (he : t.events = u.events) :
    (raise ev t).events = (raise ev u).events := by simp only [raise_eq, hc, he]

theorem demote_eq (hb : BoundAt s p i c) (how : ReleaseDetail) (hne : o ≠ s.own) :
    demote p o e how (setOwner p o e s) = releasedState s p i c o e how := by
  have hrole : roleOf s o = .shadow := if_neg hne
  have hmap : ((unpublish p (raise (.pointReleased p e o how) (setOwner p o e s))).custody.table.map
      (fun y => y.map (fun c => if c.point = p then demotedCustody (setOwner p o e s).control.image c else c))) =
      s.custody.table.set i (some (Safety.demoted s c)) := by
    have h := map_entry_of_only (f := demotedCustody s.control.image) (OnlyEntry.of_boundAt hb)
    have hcustody : (unpublish p (raise (.pointReleased p e o how) (setOwner p o e s))).custody = s.custody := by
      simp [unpublish, setOwner]
    rw [hcustody]
    exact h
  have hreset : State.reset.publisher.records.get p = PubRecord.resetForm := Table.get_fill _ p
  have hset := setOwner_of_boundAt (o := o) (e := e) hb
  have hevents : (raise (.pointReleased p e o how) (setOwner p o e s)).events = (raise (.pointReleased p e o how) s).events :=
    raise_events_congr _ rfl rfl
  rw [demote, State.mapCustody, hmap, raise_frame, hevents, hset, hrole]
  unfold releasedState demotedState
  rw [hreset]
  rfl

/-! ### Promotion (R8, R71, R93) -/

/-- The entry of a point after the promotion write of context `y` (R8). -/
def promotedEntry (s : State) (p : Point) (e : Epoch) (y : Context) : MirrorEntry :=
  Safety.written { s.mirror.get p with owner := some s.own, epoch := e } (s.desc p).freshness y.quality y.hit
    (if y.quality = .good ∧ (s.desc p).publish ≠ .hitOnly then y.lastValue else none)

/-- POINT_ACQUIRED raised, with the entry written and context `y` in place (R8, R71). -/
def acquiredState (s : State) (p : Point) (i : Input) (e : Epoch) (path : AcquirePath) (y : Context) : State :=
  raise (.pointAcquired p e path)
    { s with contexts := s.contexts.set i y, mirror := s.mirror.set p (promotedEntry s p e y) }

/-- The promotion write passed on, and the point made due (R8, R22, R71, R93). -/
def announcedState (s : State) (p : Point) (i : Input) (e : Epoch) (path : AcquirePath) (y : Context) : State :=
  makeDue p (passToPublisher p (s.mirror.get p).quality (s.mirror.get p).hit
    (heardByVoter p (s.mirror.get p) (promotedEntry s p e y) (acquiredState s p i e path y)))

/-- The state after a promotion whose context is `y`, ahead of the re-examination (R71). -/
def promotedState (s : State) (p : Point) (i : Input) (c : CustodyEntry) (e : Epoch) (path : AcquirePath) (y : Context) :
    State :=
  { announcedState s p i e path y with
    custody := { s.custody with table := s.custody.table.set i (some (promoted c)) } }

theorem raise_setEntry (ev : Event) (z : MirrorEntry) (s : State) : (raise ev s).setEntry p z = raise ev (s.setEntry p z) := by
  rw [raise_eq, raise_eq]; rfl

theorem heardByVoter_voterStep (p : Point) (z z' : MirrorEntry) (s : State) : VoterStep s (heardByVoter p z z' s) := by
  unfold heardByVoter
  split
  · exact .refl s
  · exact passToVoter_voterStep p s

theorem makeDue_passed_writeStep (p : Point) (q : Quality) (y : Hit) (s : State) :
    WriteStep p s (makeDue p (passToPublisher p q y s)) :=
  ((passToPublisher_publisherStep p q y s).writeStep p).trans ((makeDue_publisherStep p _).writeStep p)

theorem announcedState_writeStep (e : Epoch) (path : AcquirePath) (y : Context) :
    WriteStep p (acquiredState s p i e path y) (announcedState s p i e path y) :=
  ((heardByVoter_voterStep p _ _ _).writeStep p).trans (makeDue_passed_writeStep p _ _ _)

theorem announcedState_custody (e : Epoch) (path : AcquirePath) (y : Context) :
    (announcedState s p i e path y).custody = s.custody := by
  rw [(announcedState_writeStep e path y).custody, acquiredState, raise_custody]

theorem promotedState_contexts (path : AcquirePath) (y : Context) :
    (promotedState s p i c e path y).contexts = s.contexts.set i y := by
  rw [promotedState, (announcedState_writeStep e path y).contexts, acquiredState, raise_contexts]

theorem promotedState_table (path : AcquirePath) (y : Context) :
    (promotedState s p i c e path y).custody.table = s.custody.table.set i (some (promoted c)) := rfl

theorem promote_eq (hb : BoundAt s p i c) (path : AcquirePath) {y : Context} (hy : y.point = some p)
    (ht : t = { moved s p s.own e with contexts := s.contexts.set i y }) :
    promote p e path t = promotedState s p i c e path y := by
  have hcontrol : t.control = s.control := by rw [ht]; rfl
  have hmirror : t.mirror = s.mirror.set p { s.mirror.get p with owner := some s.own, epoch := e } := by rw [ht]; rfl
  let s1 := raise (.pointAcquired p e path) t
  have hbound : s1.boundContext p = some y := by
    have hi : s1.boundInput p = some i := by
      refine find?_finRange_eq_some (by simp [s1, ht, hy]) fun j hj => ?_
      have hne : (s.contexts.get j).point ≠ some p := fun hp => absurd (hb.2.1 j hp) (ne_of_lt hj)
      simpa [s1, ht, ne_of_lt hj] using hne
    rw [State.boundContext, hi]
    simp [s1, ht]
  have hwrite : makeDue p (promotionWrite p s1) = announcedState s p i e path y := by
    have hget : s1.mirror.get p = { s.mirror.get p with owner := some s.own, epoch := e } := by simp [s1, hmirror]
    have hdesc : s1.desc p = s.desc p := by simp [State.desc, s1, hcontrol]
    have hown : s1.own = s.own := by simp [State.own, s1, hcontrol]
    have hset (z : MirrorEntry) : s1.setEntry p z = raise (.pointAcquired p e path)
        { s with contexts := s.contexts.set i y, mirror := s.mirror.set p z } := by
      rw [raise_setEntry, ht]
      simp [State.setEntry, moved]
    have hwritten : writeFromContext p y s1 = passToPublisher p (s.mirror.get p).quality (s.mirror.get p).hit
        (heardByVoter p (s.mirror.get p) (promotedEntry s p e y) (acquiredState s p i e path y)) := by
      rw [writeFromContext, contentWrite_eq, hget, hdesc, hown, if_pos rfl, hset]
      rfl
    rw [promotionWrite, hbound]
    exact congrArg (makeDue p) hwritten
  show (makeDue p (promotionWrite p s1)).mapCustody p promotedCustody = _
  rw [hwrite, State.mapCustody, State.withTable, announcedState_custody, map_entry_of_only (OnlyEntry.of_boundAt hb)]
  rfl

theorem releasedState_only (hb : BoundAt s p i c) (how : ReleaseDetail) :
    OnlyEntry (releasedState s p i c o e how) p i (Safety.demoted s c) :=
  (OnlyEntry.of_boundAt hb).set (t := releasedState s p i c o e how) hb.2.2.2.1 rfl

theorem promoted_point (c : CustodyEntry) : (promoted c).point = c.point := by unfold promoted; split <;> rfl

theorem promotedState_only (hb : BoundAt s p i c) (path : AcquirePath) (y : Context) :
    OnlyEntry (promotedState s p i c e path y) p i (promoted c) :=
  (OnlyEntry.of_boundAt hb).set ((promoted_point c).trans hb.2.2.2.1) (promotedState_table path y)

/-! ### Decisions at a bound point that changes hands here -/

/-- An accepted assertion or YIELD that this station loses the point by, without content (R69, R70). -/
theorem applyVerdict_demotes (hb : BoundAt s p i c) (ho : (s.mirror.get p).owner = some s.own) (hne : o ≠ s.own)
    (hw : w.content = none) : applyVerdict p (.accepted o e false) w s =
      reexamine i (releasedState s p i c o e (if w.isYield then .yielded else .demoted)) := by
  have hc : changeCustody p (s.mirror.get p) o e w (setOwner p o e s) =
      releasedState s p i c o e (if w.isYield then .yielded else .demoted) :=
    (changeCustody_demote (t := setOwner p o e s) ho hne).trans (demote_eq hb _ hne)
  rw [applyVerdict_accepted, hc]
  dsimp only
  rw [writeContent_of_none hw, if_neg (by simp [ho, hne.symm])]
  exact reexaminePoint_of_only (releasedState_only hb _)

theorem releasedState_boundRole (hb : BoundAt s p i c) (how : ReleaseDetail) :
    BoundRole (releasedState s p i c o e how) p .shadow := by
  intro j hj
  have hcontexts : (releasedState s p i c o e how).contexts = s.contexts.set i { s.contexts.get i with role := .shadow } := rfl
  rw [hcontexts, Table.get_set] at hj ⊢
  split at hj
  next hji => rw [if_pos hji]
  next hji => exact absurd (hb.2.1 j hj) hji

theorem releasedState_entry (how : ReleaseDetail) :
    (releasedState s p i c o e how).mirror.get p = { s.mirror.get p with owner := some o, epoch := e } :=
  Table.get_set_self ..

/-- An accepted record that this station loses the point by: the record write follows, ahead of the re-examination (R69). -/
theorem applyVerdict_demotes_content (hb : BoundAt s p i c) (ho : (s.mirror.get p).owner = some s.own) (hne : o ≠ s.own)
    (hw : w.content = some { quality := r.quality, hit := x, value := r.value }) (he : r.epoch = e) :
    let t := releasedState s p i c o e (if w.isYield then .yielded else .demoted)
    applyVerdict p (.accepted o e false) w s = reexamine i (contentTaken t p o r x false) := by
  intro t
  have hc : changeCustody p (s.mirror.get p) o e w (setOwner p o e s) = t :=
    (changeCustody_demote (t := setOwner p o e s) ho hne).trans (demote_eq hb _ hne)
  have hentry : t.mirror.get p = { s.mirror.get p with owner := some o, epoch := e } := releasedState_entry _
  have hmoved : moved t p o e = t := moved_same (by rw [hentry]) (by rw [hentry])
  have hwrite : recordWrite p { quality := r.quality, hit := x, value := r.value } t = contentTaken t p o r x false := by
    have h := recordWrite_taken (s := t) (p := p) (o := o) (e := e) (n := false) (r := r) (h := x) hne
      (by rw [hentry, he]; simp) (by simp)
    rwa [if_neg (by simp), hmoved] at h
  rw [applyVerdict_accepted, hc]
  dsimp only
  rw [if_neg (by simp [ho, hne.symm]), if_neg Bool.false_ne_true, writeContent_of_shadow hw (releasedState_boundRole hb _),
    hwrite]
  exact reexaminePoint_congr (releasedState_only hb _) (contentTaken_table false)

/-- An accepted assertion or YIELD that this station gains the point by; the content is its own context's (R8, R11, R71). -/
theorem applyVerdict_promotes (hb : BoundAt s p i c) (ho : (s.mirror.get p).owner ≠ some s.own) {y : Context}
    (hy : y.point = some p) (hrole : y.role = .acting)
    (hload : loadHandover p w (setOwner p s.own e s) = { moved s p s.own e with contexts := s.contexts.set i y }) :
    applyVerdict p (.accepted s.own e false) w s =
      reexamine i (promotedState s p i c e (if w.isYield then .yield else .claim) y) := by
  have hc : changeCustody p (s.mirror.get p) s.own e w (setOwner p s.own e s) =
      promotedState s p i c e (if w.isYield then .yield else .claim) y := by
    refine (changeCustody_promote (s := s) (t := setOwner p s.own e s) ho).trans ?_
    exact promote_eq hb _ hy hload
  have hget (j : Input) : (promotedState s p i c e (if w.isYield then .yield else .claim) y).contexts.get j =
      if j = i then y else s.contexts.get j := by rw [promotedState_contexts, Table.get_set]
  have hacts : (promotedState s p i c e (if w.isYield then .yield else .claim) y).actsFor p = true := by
    refine actsFor_eq_true (i := i) (fun j hj => ?_) (find?_finRange_eq_some ?_ fun j hj => ?_)
    · rw [hget] at hj ⊢
      split at hj
      next hji => rw [if_pos hji, hrole]
      next hji => exact absurd (hb.2.1 j hj) hji
    · simp [hget, hy]
    · rw [hget, if_neg (ne_of_lt hj)]
      simpa using fun hpj => absurd (hb.2.1 j hpj) (ne_of_lt hj)
  rw [applyVerdict_accepted, hc]
  dsimp only
  rw [if_neg (fun h => ho h.1), if_neg Bool.false_ne_true, writeContent_of_acting hacts]
  exact reexaminePoint_of_only (promotedState_only hb _ y)

theorem loadHandover_of_claim (hw : w.isYield = false) (s : State) : loadHandover p w s = s := by
  rw [loadHandover, hw]

/-! ### The owner stays, or is elsewhere before and after -/

/-- The statements' hypothesis on the roles, at a point with this owner (R30). -/
theorem quiet_of_same (ho : (s.mirror.get p).owner = some o)
    (hr : ∀ i, (s.contexts.get i).point = some p → (s.contexts.get i).role = roleFor s (some p)) : Quiet s p o :=
  ⟨fun i hi => (hr i hi).trans (roleFor_eq ho), .inl ho⟩

theorem quiet_of_unbound (hu : Unbound s p) (ho : (s.mirror.get p).owner = some a) (hne : a ≠ s.own) (hne' : o ≠ s.own) :
    Quiet s p o := ⟨.of_unbound hu, .inr ⟨by simpa [ho] using hne, hne'⟩⟩

theorem applyVerdict_same_epoch (hq : Quiet s p o) (ho : (s.mirror.get p).owner = some o) (he : (s.mirror.get p).epoch = e)
    (hw : w.content = none ∨ o = s.own ∧ s.boundInput p = some i) :
    applyVerdict p (.accepted o e n) w s = if n then placeNotice p s else s := by
  rw [applyVerdict_quiet hq hw, moved_same ho he]
  exact if_pos ⟨ho, he⟩

/-- The owner or the epoch moves, and nothing else (R69). -/
theorem applyVerdict_moved (hq : Quiet s p o) (hne : ¬ ((s.mirror.get p).owner = some o ∧ (s.mirror.get p).epoch = e))
    (hw : w.content = none ∨ o = s.own ∧ s.boundInput p = some i) :
    applyVerdict p (.accepted o e false) w s = reexaminePoint p (moved s p o e) := by
  rw [applyVerdict_quiet hq hw]
  exact if_neg hne

theorem reexaminePoint_moved_unbound (hu : Unbound s p) : reexaminePoint p (moved s p o e) = moved s p o e :=
  reexaminePoint_of_none (s := moved s p o e) hu.2

theorem reexaminePoint_moved_bound (hb : BoundAt s p i c) : reexaminePoint p (moved s p o e) = reexamine i (moved s p o e) :=
  reexaminePoint_congr (t := moved s p o e) (OnlyEntry.of_boundAt hb) rfl

/-- The record write at the epoch held, where a lower one has placed a notice. -/
theorem applyVerdict_content_kept (hq : Quiet s p o) (ho : (s.mirror.get p).owner = some o) (hown : o ≠ s.own)
    (hw : w.content = some { quality := r.quality, hit := x, value := r.value }) (he : r.epoch ≤ (s.mirror.get p).epoch) :
    applyVerdict p (.accepted o (s.mirror.get p).epoch n) w s = contentTaken s p o r x n := by
  rw [applyVerdict_content hq hown hw (by rw [if_neg (by simpa using he)]) fun _ => moved_same ho rfl]
  exact if_pos ⟨ho, rfl⟩

/-- The record write after the owner or the epoch has moved. -/
theorem applyVerdict_content_moved (hq : Quiet s p o) (hown : o ≠ s.own)
    (hw : w.content = some { quality := r.quality, hit := x, value := r.value }) (he : r.epoch = e)
    (hle : (s.mirror.get p).epoch ≤ e) (hne : ¬ ((s.mirror.get p).owner = some o ∧ (s.mirror.get p).epoch = e)) :
    applyVerdict p (.accepted o e false) w s = reexaminePoint p (contentTaken s p o r x false) := by
  have hmax : e = if (s.mirror.get p).epoch < r.epoch then r.epoch else (s.mirror.get p).epoch := by
    rw [he]
    split
    next => rfl
    next h => exact BitVec.le_antisymm (by simpa using h) hle
  rw [applyVerdict_content hq hown hw hmax (by simp)]
  exact if_neg hne

theorem reexaminePoint_contentTaken_unbound (hu : Unbound s p) (n : Bool) :
    reexaminePoint p (contentTaken s p o r x n) = contentTaken s p o r x n :=
  reexaminePoint_of_none (NoEntry.congr (s := s) hu.2 (contentTaken_table n))

theorem reexaminePoint_contentTaken_bound (hb : BoundAt s p i c) (n : Bool) :
    reexaminePoint p (contentTaken s p o r x n) = reexamine i (contentTaken s p o r x n) :=
  reexaminePoint_congr (OnlyEntry.of_boundAt hb) (contentTaken_table n)

/-! ### Content that this station's own state outranks (R11) -/

theorem demote_contexts (how : ReleaseDetail) (s : State) : (demote p o e how s).contexts = s.contexts := by
  rw [demote, State.mapCustody, unpublish]
  simp

theorem promote_contexts (path : AcquirePath) (s : State) : (promote p e path s).contexts = s.contexts := by
  have hwrite (s : State) : (promotionWrite p s).contexts = s.contexts := by
    unfold promotionWrite
    split
    · exact (contentWrite_writeStep p _ _ _ s).contexts
    · rfl
  show (makeDue p (promotionWrite p (raise _ s))).contexts = _
  obtain ⟨pub, hpub⟩ := makeDue_publisherStep p (promotionWrite p (raise (.pointAcquired p e path) s))
  rw [hpub]
  show (promotionWrite p _).contexts = _
  rw [hwrite, raise_contexts]

theorem changeCustody_contexts {old : MirrorEntry} (hw : w.isYield = false) (s : State) :
    (changeCustody p old o e w s).contexts = s.contexts := by
  unfold changeCustody
  split
  · rfl
  · split
    · exact demote_contexts _ s
    · split
      · rw [loadHandover_of_claim hw, promote_contexts]
      · rfl

theorem applyVerdict_self (hi : s.boundInput p = some i) (y : Option Content) (hv : Option Handover) :
    applyVerdict p (.accepted s.own e n) { content := y, handover := hv, isYield := false } s =
      applyVerdict p (.accepted s.own e n) { content := none, handover := none, isYield := false } s := by
  have hchange : changeCustody p (s.mirror.get p) s.own e { content := y, handover := hv, isYield := false }
      (setOwner p s.own e s) = changeCustody p (s.mirror.get p) s.own e { content := none, handover := none, isYield := false }
      (setOwner p s.own e s) := by
    unfold changeCustody
    rw [loadHandover_of_claim rfl, loadHandover_of_claim rfl]
  have hwrite (v : Carried) (t : State) (ht : t.contexts = (setOwner p s.own e s).contexts) : writeContent p v t = t := by
    have hpoint (j : Input) : (t.contexts.get j).point = (s.contexts.get j).point := by rw [ht, setOwner_point]
    refine writeContent_of_acting (actsFor_eq_true (i := i) ?_ ?_)
    · have h := (setOwner_boundRole (s := s) (p := p) s.own e).congr ht
      rwa [roleOf, if_pos rfl] at h
    · rw [State.boundInput] at hi ⊢
      simp only [hpoint, hi]
  have hcontexts (n : Bool) (t : State) (ht : t.contexts = (setOwner p s.own e s).contexts) :
      (if n then placeNotice p t else t).contexts = (setOwner p s.own e s).contexts := by
    cases n with
    | true => rw [if_pos rfl, placeNotice_contexts, ht]
    | false => exact ht
  rw [applyVerdict_accepted, applyVerdict_accepted, hchange]
  dsimp only
  have hc := hcontexts n _ (changeCustody_contexts (p := p) (old := s.mirror.get p) (o := s.own) (e := e)
    (w := { content := none, handover := none, isYield := false }) rfl (setOwner p s.own e s))
  rw [hwrite _ _ hc, hwrite _ _ hc]

theorem acceptance_cases (d : PointDesc) (z : MirrorEntry) (a : Station) (e : Epoch) (n : Bool) :
    acceptance d z a e n = .foreign ∨ (∃ m, acceptance d z a e n = .rejected m) ∨
      ∃ e' m, acceptance d z a e n = .accepted a e' m := by
  unfold acceptance
  split
  · exact .inl rfl
  · split
    · exact .inr (.inr ⟨_, _, rfl⟩)
    · split
      · exact .inr (.inr ⟨_, _, rfl⟩)
      · split
        · exact .inr (.inr ⟨_, _, rfl⟩)
        · exact .inr (.inl ⟨_, rfl⟩)

end

end Sys2Proof.Machine

end

/-! The statements about assertions, YIELD records and notices. -/

section

namespace Sys2Proof.Machine

open Sys2Proof.Safety

section

variable {s : State} {p : Point} {a o h : Station} {e : Epoch} {n : Bool} {i : Input} {c : CustodyEntry} {r : Record}
  {x : Hit} {b : Byte}

/-- The second and the third way to win a point (R66). -/
theorem acceptance_wins {d : PointDesc} {z : MirrorEntry} (huse : z.inUse = true)
    (hserves : d.homeStation = some a ∨ d.standbyStation = some a) (ho : z.owner = some o) (hne : a ≠ o)
    (hwins : z.epoch < e ∨ e = z.epoch ∧ d.homeStation = some a ∧ d.standbyStation = some o) :
    acceptance d z a e n = .accepted a e false := by
  rcases hwins with hlt | ⟨heq, hhome, hstandby⟩
  · exact acceptance_higher huse hserves ho hne hlt
  · exact acceptance_tie huse ho hne heq hhome hstandby

/-- An assertion accepted with a new owner or a higher epoch (R66). -/
theorem acceptance_changes {d : PointDesc} {z : MirrorEntry} (huse : z.inUse = true)
    (hserves : d.homeStation = some a ∨ d.standbyStation = some a) (ho : z.owner = some o)
    (hch : a = o ∧ z.epoch < e ∨
      a ≠ o ∧ (z.epoch < e ∨ e = z.epoch ∧ d.homeStation = some a ∧ d.standbyStation = some o)) :
    acceptance d z a e n = .accepted a e false ∧ z.epoch ≤ e ∧ ¬ (z.owner = some a ∧ z.epoch = e) := by
  rcases hch with ⟨rfl, hlt⟩ | ⟨hne, hwins⟩
  · exact ⟨acceptance_same_ge huse hserves ho (BitVec.le_of_lt hlt), BitVec.le_of_lt hlt, fun h => BitVec.ne_of_lt hlt h.2⟩
  · refine ⟨acceptance_wins huse hserves ho hne hwins, ?_, fun h => hne (Option.some.inj (h.1.symm.trans ho))⟩
    rcases hwins with hlt | ⟨heq, -, -⟩
    · exact BitVec.le_of_lt hlt
    · exact heq ▸ BitVec.le_refl _

theorem recordContent_of_hit {m : PublishMode} (hx : hitOfCode r.hit = some x)
    (hok : ¬ (r.quality = .good ∧ r.value = none ∧ m ≠ .hitOnly)) :
    recordContent m r = some { quality := r.quality, hit := x, value := r.value } := by
  rw [recordContent, hx]
  exact if_neg hok

/-- POINT and CLAIM records are one assertion with content (R65). -/
theorem takes_of_applyVerdict {t : State} (hp : pointOfByte r.point = some p)
    (hy : recordContent (s.desc p).publish r = some { quality := r.quality, hit := x, value := r.value })
    (h : ∀ hv : Option Handover, applyVerdict p (acceptance (s.desc p) (s.mirror.get p) a r.epoch false)
      { content := some { quality := r.quality, hit := x, value := r.value }, handover := hv, isYield := false } s = t) :
    takePointRecord a s r = t ∧ ∀ w : Debounce, handoverOf w ≠ none → takeClaimRecord a s { record := r, debounce := w } = t := by
  refine ⟨(takePointRecord_of_content hp hy).trans (h none), fun w hw => ?_⟩
  rcases option_cases (handoverOf w) with hnone | ⟨v, hv⟩
  · exact absurd hnone hw
  · exact (takeClaimRecord_of_content (x := { record := r, debounce := w }) hp hy hv).trans (h (some v))

/-- The promotion in one expression, as the statement has it (R8, R22, R71, R93). -/
theorem promotedState_eq (path : AcquirePath) (y : Context) : promotedState s p i c e path y =
    (let z := s.mirror.get p
    let z' := Safety.written { z with owner := some s.own, epoch := e } (s.desc p).freshness y.quality y.hit
      (if y.quality = .good ∧ (s.desc p).publish ≠ .hitOnly then y.lastValue else none)
    let u := raise (.pointAcquired p e path) { s with contexts := s.contexts.set i y, mirror := s.mirror.set p z' }
    let u' := if z'.quality = z.quality ∧ z'.hit = z.hit then u else passToVoter p u
    let v := makeDue p (passToPublisher p z.quality z.hit u')
    { v with custody := { s.custody with table := s.custody.table.set i (some (promoted c)) } }) := by
  unfold promotedState announcedState heardByVoter acquiredState promotedEntry
  rfl

/-! ### Assertions without content (R66, R69) -/

section

variable (hb : pointOfByte b = some p) (huse : (s.mirror.get p).inUse = true) (ho : (s.mirror.get p).owner = some o)
  (hserves : (s.desc p).homeStation = some a ∨ (s.desc p).standbyStation = some a)
  (hrole : ∀ i, (s.contexts.get i).point = some p → (s.contexts.get i).role = roleFor s (some p))

include hb huse ho hserves hrole

theorem takeStatement_of_same (heq : a = o) (he : e = (s.mirror.get p).epoch) : takeStatement b (some a) e n s = s := by
  subst heq
  rw [takeStatement_of_some e n hb, acceptance_same_ge huse hserves ho (BitVec.le_of_eq he.symm)]
  exact applyVerdict_same_epoch (i := 0) (quiet_of_same ho hrole) ho he.symm (.inl rfl)

theorem takeStatement_of_lower (heq : a = o) (he : e < (s.mirror.get p).epoch) :
    takeStatement b (some a) e n s = if n then s else placeNotice p s := by
  subst heq
  rw [takeStatement_of_some e n hb, acceptance_same_lt huse hserves ho he,
    applyVerdict_same_epoch (i := 0) (quiet_of_same ho hrole) ho rfl (.inl rfl)]
  cases n <;> rfl

theorem takeStatement_of_higher (hbound : BoundAt s p i c) (heq : a = o) (he : (s.mirror.get p).epoch < e) :
    takeStatement b (some a) e n s = reexamine i (moved s p a e) := by
  obtain ⟨hacc, -, hne⟩ := acceptance_changes (n := n) huse hserves ho (.inl ⟨heq, he⟩)
  subst heq
  rw [takeStatement_of_some e n hb, hacc, applyVerdict_moved (i := i) (quiet_of_same ho hrole) hne (.inl rfl),
    reexaminePoint_moved_bound hbound]

omit hrole

theorem takeStatement_of_unbound (hos : o ≠ s.own) (has : a ≠ s.own) (hu : Unbound s p)
    (hch : a = o ∧ (s.mirror.get p).epoch < e ∨ a ≠ o ∧ ((s.mirror.get p).epoch < e ∨
      e = (s.mirror.get p).epoch ∧ (s.desc p).homeStation = some a ∧ (s.desc p).standbyStation = some o)) :
    takeStatement b (some a) e n s = moved s p a e := by
  obtain ⟨hacc, -, hne⟩ := acceptance_changes (n := n) huse hserves ho hch
  rw [takeStatement_of_some e n hb, hacc, applyVerdict_moved (i := 0) (quiet_of_unbound hu ho hos has) hne (.inl rfl),
    reexaminePoint_moved_unbound hu]

variable (hne : a ≠ o) (hwins : (s.mirror.get p).epoch < e ∨
  e = (s.mirror.get p).epoch ∧ (s.desc p).homeStation = some a ∧ (s.desc p).standbyStation = some o)

include hne hwins

theorem takeStatement_demotes (hbound : BoundAt s p i c) (hos : o = s.own) :
    takeStatement b (some a) e n s = reexamine i (demotedState s p i c a e) := by
  subst hos
  rw [takeStatement_of_some e n hb, acceptance_wins huse hserves ho hne hwins]
  exact applyVerdict_demotes hbound ho hne rfl

theorem takeStatement_promotes (hbound : BoundAt s p i c) (has : a = s.own) :
    takeStatement b (some a) e n s =
      reexamine i (promotedState s p i c e .claim { s.contexts.get i with role := .acting }) := by
  subst has
  rw [takeStatement_of_some e n hb, acceptance_wins huse hserves ho hne hwins]
  refine applyVerdict_promotes hbound (by simpa [ho] using hne.symm) hbound.1 rfl ?_
  rw [loadHandover_of_claim rfl, setOwner_of_boundAt hbound, roleOf, if_pos rfl]

end

/-! ### Assertions with content (R10, R11, R66, R69) -/

section

variable (hp : pointOfByte r.point = some p) (huse : (s.mirror.get p).inUse = true) (ho : (s.mirror.get p).owner = some o)
  (hserves : (s.desc p).homeStation = some a ∨ (s.desc p).standbyStation = some a)
  (hy : recordContent (s.desc p).publish r = some { quality := r.quality, hit := x, value := r.value })

include hp huse ho hserves hy

/-- POINT and CLAIM records have the same effect `t`. -/
def Takes (a : Station) (s : State) (r : Record) (t : State) : Prop :=
  takePointRecord a s r = t ∧ ∀ w : Debounce, handoverOf w ≠ none → takeClaimRecord a s { record := r, debounce := w } = t

theorem takes_of_kept (hq : Quiet s p a) (has : a ≠ s.own) (heq : a = o) (he : r.epoch ≤ (s.mirror.get p).epoch) :
    Takes a s r (contentTaken s p a r x (decide (r.epoch < (s.mirror.get p).epoch))) := by
  subst heq
  refine takes_of_applyVerdict hp hy fun hv => ?_
  have hacc : acceptance (s.desc p) (s.mirror.get p) a r.epoch false =
      .accepted a (s.mirror.get p).epoch (decide (r.epoch < (s.mirror.get p).epoch)) := by
    by_cases hlt : r.epoch < (s.mirror.get p).epoch
    · rw [acceptance_same_lt huse hserves ho hlt, decide_eq_true hlt]; rfl
    · have heq : r.epoch = (s.mirror.get p).epoch := BitVec.le_antisymm he (by simpa using hlt)
      rw [acceptance_same_ge huse hserves ho (BitVec.le_of_eq heq.symm), decide_eq_false hlt, heq]
  rw [hacc]
  exact applyVerdict_content_kept hq ho has rfl he

/-- The owner or the epoch moves elsewhere, and the record write follows (R69). -/
theorem takes_of_moved (hq : Quiet s p a) (has : a ≠ s.own)
    (hch : a = o ∧ (s.mirror.get p).epoch < r.epoch ∨ a ≠ o ∧ ((s.mirror.get p).epoch < r.epoch ∨
      r.epoch = (s.mirror.get p).epoch ∧ (s.desc p).homeStation = some a ∧ (s.desc p).standbyStation = some o)) :
    Takes a s r (reexaminePoint p (contentTaken s p a r x false)) := by
  obtain ⟨hacc, hle, hne⟩ := acceptance_changes (n := false) huse hserves ho hch
  refine takes_of_applyVerdict hp hy fun hv => ?_
  rw [hacc]
  exact applyVerdict_content_moved hq has rfl rfl hle hne

theorem takes_of_demoted (hbound : BoundAt s p i c) (hos : o = s.own) (hne : a ≠ o)
    (hwins : (s.mirror.get p).epoch < r.epoch ∨
      r.epoch = (s.mirror.get p).epoch ∧ (s.desc p).homeStation = some a ∧ (s.desc p).standbyStation = some o) :
    Takes a s r (reexamine i (contentTaken (demotedState s p i c a r.epoch) p a r x false)) := by
  subst hos
  refine takes_of_applyVerdict hp hy fun hv => ?_
  rw [acceptance_wins huse hserves ho hne hwins]
  exact applyVerdict_demotes_content hbound ho hne rfl rfl

omit huse ho hserves

theorem takes_of_self (hbound : BoundAt s p i c) (has : a = s.own) : Takes a s r (takeStatement r.point (some a) r.epoch false s) := by
  subst has
  refine takes_of_applyVerdict hp hy fun hv => ?_
  rw [takeStatement_of_some r.epoch false hp]
  rcases acceptance_cases (s.desc p) (s.mirror.get p) s.own r.epoch false with h | ⟨m, h⟩ | ⟨e', m, h⟩ <;> rw [h]
  · rfl
  · rfl
  · exact applyVerdict_self (boundInput_of_boundAt hbound) _ _

end

/-! ### YIELD records at a point that the home owns (R67, R69) -/

section

variable {y : CustodyRecord} {v : Handover} (hp : pointOfByte y.record.point = some p) (huse : (s.mirror.get p).inUse = true)
  (hs : (s.desc p).standbyStation = some a) (hh : (s.desc p).homeStation = some h) (ho : (s.mirror.get p).owner = some h)
  (hy : recordContent (s.desc p).publish y.record =
    some { quality := y.record.quality, hit := x, value := y.record.value }) (hv : handoverOf y.debounce = some v)
  (hq : Quiet s p h) (hown : h ≠ s.own)

include hp huse hs hh ho hy hv hq hown

theorem takeYieldRecord_of_kept (hle : y.record.epoch ≤ (s.mirror.get p).epoch) :
    takeYieldRecord a s y = contentTaken s p h y.record x (decide (y.record.epoch < (s.mirror.get p).epoch)) := by
  have hacc : yieldAcceptance (s.desc p) (s.mirror.get p) a y.record.epoch =
      .accepted h (s.mirror.get p).epoch (decide (y.record.epoch < (s.mirror.get p).epoch)) := by
    by_cases hlt : y.record.epoch < (s.mirror.get p).epoch
    · rw [yieldAcceptance_home_lt huse hs hh ho hlt, decide_eq_true hlt]
    · have heq : y.record.epoch = (s.mirror.get p).epoch := BitVec.le_antisymm hle (by simpa using hlt)
      rw [yieldAcceptance_home_ge huse hs hh ho (BitVec.le_of_eq heq.symm), decide_eq_false hlt, heq]
  rw [takeYieldRecord_of_content hp hy hv, hacc]
  exact applyVerdict_content_kept hq ho hown rfl hle

theorem takeYieldRecord_of_raised (hlt : (s.mirror.get p).epoch < y.record.epoch) :
    takeYieldRecord a s y = reexaminePoint p (contentTaken s p h y.record x false) := by
  rw [takeYieldRecord_of_content hp hy hv, yieldAcceptance_home_ge huse hs hh ho (BitVec.le_of_lt hlt)]
  exact applyVerdict_content_moved hq hown rfl rfl (BitVec.le_of_lt hlt) fun hc => BitVec.ne_of_lt hlt hc.2

end

end

end Sys2Proof.Machine

end

section

namespace Sys2Proof.Proofs

open Sys2Proof.Machine Sys2Proof.Safety

/-- Settles O32: the table of R66, and the decisions of `applyVerdict` by who owns the point before and after. -/
theorem assertionTable : Obligations.AssertionTable := by
  refine ⟨fun d z a o e n ho => ⟨fun h => acceptance_foreign e n (by simpa using h), fun huse hserves => ?_⟩,
    fun s b p a o e n hb huse ho hserves hrole => ?_⟩
  · refine ⟨fun heq he => ?_, fun heq he => ?_, fun hne he => acceptance_higher huse hserves ho hne he,
      fun hne he hh hs => acceptance_tie huse ho hne he hh hs, fun hne he ht => acceptance_rejected huse hserves ho hne he ht⟩
    · subst heq
      exact acceptance_same_ge huse hserves ho he
    · subst heq
      exact acceptance_same_lt huse hserves ho he
  have content {r : Record} {y : Hit} (hr : r.point = b) (hy : hitOfCode r.hit = some y)
      (hok : ¬ (r.quality = .good ∧ r.value = none ∧ (s.desc p).publish ≠ .hitOnly)) :
      pointOfByte r.point = some p ∧
        recordContent (s.desc p).publish r = some { quality := r.quality, hit := y, value := r.value } :=
    ⟨hr ▸ hb, recordContent_of_hit hy hok⟩
  have hsame (heq : a = o) : Quiet s p a := quiet_of_same (heq ▸ ho) hrole
  refine ⟨takeStatement_of_same hb huse ho hserves hrole, takeStatement_of_lower hb huse ho hserves hrole,
    takeStatement_of_unbound hb huse ho hserves, fun hos has hc r y hr he hy hok => ?_, fun i c hbound =>
    ⟨takeStatement_of_higher hb huse ho hserves hrole hbound, fun hos hne hw => takeStatement_demotes hb huse ho hserves hne hw hbound hos,
      fun has hne hw => ?_, fun r y hr he hy hok =>
      ⟨fun has => ?_, fun heq has hlt => ?_, fun hos hne hw => ?_⟩⟩⟩
  · obtain ⟨hp, hcontent⟩ := content hr hy hok
    subst he
    rcases hc with ⟨heq, hle⟩ | ⟨hu, hch⟩
    · exact takes_of_kept hp huse ho hserves hcontent (hsame heq) has heq hle
    · have hle := (acceptance_changes (n := false) huse hserves ho hch).2.1
      rw [decide_eq_false (by simpa using hle), ← reexaminePoint_contentTaken_unbound hu]
      exact takes_of_moved hp huse ho hserves hcontent (quiet_of_unbound hu ho hos has) has hch
  · intro y x' u u' v
    subst has
    refine (takeStatement_promotes hb huse ho hserves hne hw hbound rfl).trans ?_
    exact congrArg (reexamine i) (promotedState_eq .claim y)
  · obtain ⟨hp, hcontent⟩ := content hr hy hok
    subst hr he
    exact takes_of_self hp hcontent hbound has
  · obtain ⟨hp, hcontent⟩ := content hr hy hok
    subst he
    rw [← reexaminePoint_contentTaken_bound hbound]
    exact takes_of_moved hp huse ho hserves hcontent (hsame heq) has (.inl ⟨heq, hlt⟩)
  · obtain ⟨hp, hcontent⟩ := content hr hy hok
    subst he
    exact takes_of_demoted hp huse ho hserves hcontent hbound hos hne hw

/-- Settles O33: the table of R67, and a YIELD record as a quiet decision with content. -/
theorem yieldTable : Obligations.YieldTable := by
  refine ⟨fun d z a h o e hh ho => ⟨yieldAcceptance_foreign e, fun huse hs => ?_⟩, ?_, ?_⟩
  · refine ⟨fun heq he => ?_, fun heq he => ?_, fun hne heq he => ?_, fun hne heq he => ?_⟩
    · subst heq
      exact yieldAcceptance_home_ge huse hs hh ho he
    · subst heq
      exact yieldAcceptance_home_lt huse hs hh ho he
    · subst heq
      exact yieldAcceptance_standby_ge huse hs hh hne ho he
    · subst heq
      exact yieldAcceptance_standby_lt huse hs hh hne ho he
  · intro s b p a h o r x hb hr huse ho hu hown hos hh hs hor hx hok hw
    obtain ⟨w, hw⟩ := Option.ne_none_iff_exists'.mp hw
    have hy := recordContent_of_hit hx hok
    have hq : Quiet s p h := quiet_of_unbound hu ho hos hown
    subst hr
    by_cases heq : o = h
    · subst heq
      by_cases hle : r.record.epoch ≤ (s.mirror.get p).epoch
      · exact takeYieldRecord_of_kept hb huse hs hh ho hy hw hq hown hle
      · have hlt : ¬ r.record.epoch < (s.mirror.get p).epoch := by simp only [BitVec.le_def, BitVec.lt_def] at *; omega
        rw [takeYieldRecord_of_raised hb huse hs hh ho hy hw hq hown (by simpa using hle), decide_eq_false hlt]
        exact reexaminePoint_contentTaken_unbound hu false
    · obtain ⟨rfl, hle⟩ := hor.resolve_left heq
      have hlt : ¬ r.record.epoch < (s.mirror.get p).epoch := by simpa using hle
      rw [takeYieldRecord_of_content hb hy hw, yieldAcceptance_standby_ge huse hs hh heq ho hle, decide_eq_false hlt,
        applyVerdict_content_moved hq hown rfl rfl hle fun hc => heq (Option.some.inj (ho.symm.trans hc.1))]
      exact reexaminePoint_contentTaken_unbound hu false
  · intro s b p a h r x i c hb hr hbound hrole ho hh hs hx hok hw
    obtain ⟨w, hw⟩ := Option.ne_none_iff_exists'.mp hw
    have hy := recordContent_of_hit hx hok
    have huse : (s.mirror.get p).inUse = true := hbound.2.2.2.2.2.1
    have hq : Quiet s p h := quiet_of_same ho fun j hj => by rw [hbound.2.1 j hj, hrole]
    have hi := boundInput_of_boundAt hbound
    subst hr
    refine ⟨fun hown hlt => ?_, fun hown heq => ?_, fun hown hlt => ?_, fun hown hle =>
      takeYieldRecord_of_kept hb huse hs hh ho hy hw hq hown hle, fun hown hlt => ?_⟩
    · rw [takeYieldRecord_of_content hb hy hw, yieldAcceptance_home_lt huse hs hh ho hlt]
      exact applyVerdict_same_epoch hq ho rfl (.inr ⟨hown, hi⟩)
    · rw [takeYieldRecord_of_content hb hy hw, yieldAcceptance_home_ge huse hs hh ho (BitVec.le_of_eq heq.symm)]
      exact applyVerdict_same_epoch hq ho heq.symm (.inr ⟨hown, hi⟩)
    · rw [takeYieldRecord_of_content hb hy hw, yieldAcceptance_home_ge huse hs hh ho (BitVec.le_of_lt hlt),
        applyVerdict_moved hq (fun hc => BitVec.ne_of_lt hlt hc.2) (.inr ⟨hown, hi⟩), reexaminePoint_moved_bound hbound, moved,
        ← ho]
    · rw [takeYieldRecord_of_raised hb huse hs hh ho hy hw hq hown hlt]
      exact reexaminePoint_contentTaken_bound hbound false

end Sys2Proof.Proofs

end

/-! Where notices are placed, and two claims at one new epoch. -/

section

namespace Sys2Proof.Machine

open Sys2Proof.Safety

/-! ### The notice list (R72) -/

theorem replaceNotice_append {n x : Notice} {after : List Notice} (hx : x.point = n.point) : ∀ {before : List Notice},
    (∀ y ∈ before, y.point ≠ n.point) → replaceNotice n (before ++ x :: after) = some (before ++ n :: after)
  | [], _ => by rw [List.nil_append, replaceNotice, if_pos hx]; rfl
  | y :: before, h => by
    rw [List.cons_append, replaceNotice, if_neg (h y (by simp)), replaceNotice_append hx fun z hz => h z (by simp [hz])]
    rfl

theorem placeIn_of_mem {n x : Notice} {before after : List Notice} (hx : x.point = n.point)
    (h : ∀ y ∈ before, y.point ≠ n.point) : placeIn (before ++ x :: after) n = before ++ n :: after := by
  rw [placeIn, replaceNotice_append hx h]

theorem placeIn_of_absent {n : Notice} {l : List Notice} (h : ∀ y ∈ l, y.point ≠ n.point) :
    placeIn l n = if l.length < 8 then l ++ [n] else l := by
  have hnone : replaceNotice n l = none := replaceNotice_eq_none.mpr fun hm => by
    obtain ⟨y, hy, he⟩ := List.mem_map.mp hm
    exact h y hy he
  rw [placeIn, hnone]
  rfl

/-! ### What a decision leaves to its point's standing and to the notices (R69) -/

/-- The owner, the epoch and the use of a point are as they were, and so are the notices and the station's control. -/
structure SameStanding (p : Point) (s t : State) : Prop where
  control : t.control = s.control
  owner : (t.mirror.get p).owner = (s.mirror.get p).owner
  epoch : (t.mirror.get p).epoch = (s.mirror.get p).epoch
  inUse : (t.mirror.get p).inUse = (s.mirror.get p).inUse
  notices : t.custody.notices = s.custody.notices

section

variable {p : Point} {s t u : State} {o : Station} {e : Epoch} {w : Carried}

theorem SameStanding.refl (p : Point) (s : State) : SameStanding p s s := ⟨rfl, rfl, rfl, rfl, rfl⟩

theorem SameStanding.trans (h : SameStanding p s t) (k : SameStanding p t u) : SameStanding p s u :=
  ⟨k.control.trans h.control, k.owner.trans h.owner, k.epoch.trans h.epoch, k.inUse.trans h.inUse,
    k.notices.trans h.notices⟩

/-- A step that leaves the mirror and the notices. -/
theorem SameStanding.of_mirror (hc : t.control = s.control) (hm : t.mirror = s.mirror)
    (hn : t.custody.notices = s.custody.notices) : SameStanding p s t := by
  constructor <;> first | assumption | rw [hm]

theorem reexaminePoint_sameStanding (s : State) : SameStanding p s (reexaminePoint p s) := by
  have h : TriggerStep s (reexaminePoint p s) := by
    rw [reexaminePoint]
    exact reexamineWhere_triggerStep _ s
  exact .of_mirror h.control h.mirror h.notices

theorem contentWrite_sameStanding (q : Quality) (h : Hit) (v : Option Half) (s : State) :
    SameStanding p s (contentWrite p q h v s) where
  control := (contentWrite_writeStep p q h v s).control
  owner := by rw [contentWrite_entry]; rfl
  epoch := by rw [contentWrite_entry]; rfl
  inUse := by rw [contentWrite_entry]; rfl
  notices := by rw [(contentWrite_writeStep p q h v s).custody]

theorem demote_sameStanding (how : ReleaseDetail) (s : State) : SameStanding p s (demote p o e how s) :=
  .of_mirror (demote_takeStep p o e how s).control (by simp [demote, unpublish, State.mapCustody])
    (by simp [demote, unpublish, State.mapCustody])

theorem makeDue_sameStanding (s : State) : SameStanding p s (makeDue p s) := by
  obtain ⟨pub, h⟩ := makeDue_publisherStep p s
  rw [h]
  exact .of_mirror rfl rfl rfl

theorem promote_sameStanding (path : AcquirePath) (s : State) : SameStanding p s (promote p e path s) := by
  have hraise : SameStanding p s (raise (.pointAcquired p e path) s) := .of_mirror (by simp) (by simp) (by simp)
  have hwrite (t : State) : SameStanding p t (promotionWrite p t) := by
    unfold promotionWrite
    split
    · exact contentWrite_sameStanding ..
    · exact .refl p t
  exact ((hraise.trans (hwrite _)).trans (makeDue_sameStanding _)).trans (.of_mirror rfl rfl rfl)

theorem loadHandover_sameStanding (s : State) : SameStanding p s (loadHandover p w s) := by
  unfold loadHandover
  split <;> exact .of_mirror rfl rfl rfl

theorem changeCustody_sameStanding (old : MirrorEntry) (s : State) : SameStanding p s (changeCustody p old o e w s) := by
  unfold changeCustody
  split
  · exact .refl p s
  · split
    · exact demote_sameStanding _ s
    · split
      · exact (loadHandover_sameStanding s).trans (promote_sameStanding _ _)
      · exact .refl p s

theorem writeContent_sameStanding (s : State) : SameStanding p s (writeContent p w s) := by
  unfold writeContent
  split
  · split
    · exact .refl p s
    · exact contentWrite_sameStanding ..
  · exact .refl p s

/-- After an acceptance without a notice, the point stands as decided and the list is untouched (R69). -/
theorem applyVerdict_standing (s : State) :
    SameStanding p (setOwner p o e s) (applyVerdict p (.accepted o e false) w s) := by
  have h : SameStanding p (setOwner p o e s)
      (writeContent p w (changeCustody p (s.mirror.get p) o e w (setOwner p o e s))) :=
    (changeCustody_sameStanding _ _).trans (writeContent_sameStanding _)
  rw [applyVerdict_accepted]
  dsimp only
  rw [if_neg Bool.false_ne_true]
  split
  · exact h
  · exact h.trans (reexaminePoint_sameStanding _)

/-- The owner and the epoch of a point, its use, the station's control and its notices. -/
structure Stands (p : Point) (s : State) (t : State) (o : Station) (e : Epoch) : Prop where
  control : t.control = s.control
  owner : (t.mirror.get p).owner = some o
  epoch : (t.mirror.get p).epoch = e
  inUse : (t.mirror.get p).inUse = (s.mirror.get p).inUse
  notices : t.custody.notices = s.custody.notices

theorem applyVerdict_stands (s : State) : Stands p s (applyVerdict p (.accepted o e false) w s) o e := by
  have h := applyVerdict_standing (p := p) (o := o) (e := e) (w := w) s
  exact ⟨h.control, h.owner.trans (by simp), h.epoch.trans (by simp), h.inUse.trans (by simp), h.notices⟩

/-- A CLAIM record with a decision to come is that decision applied. -/
theorem takeClaimRecord_verdict {a : Station} {r : CustodyRecord} (hp : pointOfByte r.record.point = some p)
    (hc : recordContent (s.desc p).publish r.record ≠ none) (hd : handoverOf r.debounce ≠ none) :
    ∃ w, takeClaimRecord a s r = applyVerdict p (acceptance (s.desc p) (s.mirror.get p) a r.record.epoch false) w s := by
  obtain ⟨y, hy⟩ := Option.ne_none_iff_exists'.mp hc
  obtain ⟨v, hv⟩ := Option.ne_none_iff_exists'.mp hd
  exact ⟨_, takeClaimRecord_of_content hp hy hv⟩

theorem takeYieldRecord_verdict {a : Station} {r : CustodyRecord} (hp : pointOfByte r.record.point = some p)
    (hc : recordContent (s.desc p).publish r.record ≠ none) (hd : handoverOf r.debounce ≠ none) :
    ∃ w, takeYieldRecord a s r = applyVerdict p (yieldAcceptance (s.desc p) (s.mirror.get p) a r.record.epoch) w s := by
  obtain ⟨y, hy⟩ := Option.ne_none_iff_exists'.mp hc
  obtain ⟨v, hv⟩ := Option.ne_none_iff_exists'.mp hd
  exact ⟨_, takeYieldRecord_of_content hp hy hv⟩

/-- A claim of the home or the standby at an epoch above the mirror's takes the point, whoever owned it (R66). -/
theorem takeClaimRecord_stands {a : Station} {r : CustodyRecord} (hp : pointOfByte r.record.point = some p)
    (hc : recordContent (s.desc p).publish r.record ≠ none) (hd : handoverOf r.debounce ≠ none)
    (huse : (s.mirror.get p).inUse = true) (hserves : (s.desc p).homeStation = some a ∨ (s.desc p).standbyStation = some a)
    (ho : (s.mirror.get p).owner = some o) (he : (s.mirror.get p).epoch < r.record.epoch) :
    Stands p s (takeClaimRecord a s r) a r.record.epoch := by
  obtain ⟨w, hw⟩ := takeClaimRecord_verdict (a := a) hp hc hd
  have hacc : acceptance (s.desc p) (s.mirror.get p) a r.record.epoch false = .accepted a r.record.epoch false := by
    by_cases heq : a = o
    · subst heq
      exact acceptance_same_ge huse hserves ho (BitVec.le_of_lt he)
    · exact acceptance_higher huse hserves ho heq he
  rw [hw, hacc]
  exact applyVerdict_stands s

end

end Sys2Proof.Machine

end

section

namespace Sys2Proof.Proofs

open Sys2Proof.Machine Sys2Proof.Safety

/-- Settles O34: a list of notices by the first entry for the point, and the rejection of R66 and R67. -/
theorem noticePlacement : Obligations.NoticePlacement := by
  refine ⟨fun s p o ho => ?_, fun s b p a o e hb huse ho hserves => ?_⟩
  · intro n l
    have hplace : placeNotice p s = s.withNotices (placeIn l n) := placeNotice_eq ho
    refine ⟨fun before after x hl hx hbefore => ?_, fun habsent hroom => ?_, fun habsent hfull => ?_⟩
    · rw [hplace, hl, placeIn_of_mem hx hbefore]; rfl
    · rw [hplace, placeIn_of_absent habsent, if_pos hroom]; rfl
    · rw [hplace, placeIn_of_absent habsent, if_neg (by omega)]; rfl
  · refine ⟨fun hne hle htie => ?_, fun h r hh hs hne heq hlt hr hre hc hd => ?_⟩
    · have hrej (n : Bool) := acceptance_rejected (n := n) huse hserves ho hne hle htie
      refine ⟨?_, ?_, fun r hr hre hc => ?_⟩
      · rw [takeStatement_of_some e true hb, hrej]; rfl
      · rw [takeStatement_of_some e false hb, hrej]; rfl
      · subst hr hre
        refine ⟨?_, fun w hw => ?_⟩
        · obtain ⟨y, hy⟩ := Option.ne_none_iff_exists'.mp hc
          rw [takePointRecord_of_content hb hy, hrej]; rfl
        · obtain ⟨v, hv⟩ := takeClaimRecord_verdict (a := a) (r := { record := r, debounce := w }) hb hc hw
          rw [hv, hrej]; rfl
    · subst hr hre heq
      obtain ⟨w, hw⟩ := takeYieldRecord_verdict (a := o) hb hc hd
      rw [hw, yieldAcceptance_standby_lt huse hs hh hne.symm ho hlt]; rfl

/-- Settles O35: the first claim takes the point at the new epoch, and the second meets it there. -/
theorem simultaneousClaims : Obligations.SimultaneousClaims := by
  intro s p a b m ra rb huse hh hs hab hor hm hlt hpa hpb hea heb hca hcb hda hdb
  obtain ⟨o, ho⟩ : ∃ o, (s.mirror.get p).owner = some o := by rcases hor with h | h <;> exact ⟨_, h⟩
  have hraised : (s.mirror.get p).epoch < m + 1 := by
    rw [hm]
    bv_omega
  have hA := takeClaimRecord_stands hpa hca hda huse (.inl hh) ho (hea ▸ hraised)
  have hB := takeClaimRecord_stands hpb hcb hdb huse (.inr hs) ho (heb ▸ hraised)
  rw [hea] at hA
  rw [heb] at hB
  have hdescA : (takeClaimRecord a s ra).desc p = s.desc p := by rw [State.desc, hA.control]; rfl
  have hdescB : (takeClaimRecord b s rb).desc p = s.desc p := by rw [State.desc, hB.control]; rfl
  obtain ⟨w, hw⟩ := takeClaimRecord_verdict (s := takeClaimRecord a s ra) (a := b) hpb (hdescA ▸ hcb) hdb
  obtain ⟨v, hv⟩ := takeClaimRecord_verdict (s := takeClaimRecord b s rb) (a := a) hpa (hdescB ▸ hca) hda
  have hreject : takeClaimRecord b (takeClaimRecord a s ra) rb = placeNotice p (takeClaimRecord a s ra) := by
    rw [hw, hdescA, acceptance_rejected (hA.inUse.trans huse) (.inr hs) hA.owner hab.symm
      (by rw [heb, hA.epoch]; exact BitVec.le_refl _) (by rw [hh]; simp [hab])]
    rfl
  have hwins : Stands p (takeClaimRecord b s rb) (takeClaimRecord a (takeClaimRecord b s rb) ra) a (m + 1) := by
    rw [hv, hdescB, acceptance_tie (hB.inUse.trans huse) hB.owner hab (by rw [hea, hB.epoch]) hh hs, hea]
    exact applyVerdict_stands _
  intro homeFirst standbyFirst
  have hmirror : homeFirst.mirror = (takeClaimRecord a s ra).mirror := by
    obtain ⟨l, hl⟩ := placeNotice_frame p (takeClaimRecord a s ra)
    show (takeClaimRecord b (takeClaimRecord a s ra) rb).mirror = _
    rw [hreject, hl]; rfl
  have hnotices : homeFirst.custody.notices = placeIn s.custody.notices { point := p, owner := a, epoch := m + 1 } := by
    show (takeClaimRecord b (takeClaimRecord a s ra) rb).custody.notices = _
    rw [hreject, placeNotice_eq hA.owner, hA.notices, hA.epoch]; rfl
  exact ⟨hmirror ▸ hA.owner, hmirror ▸ hA.epoch, hwins.owner, hwins.epoch, hnotices, hwins.notices.trans hB.notices⟩

end Sys2Proof.Proofs

end

/-! Frames of one record: POINT, CLAIM and YIELD from a partner and the own ones heard back. -/

section

namespace Sys2Proof.Machine

open Sys2Proof.Safety

section

variable {s t u : State} {p : Point} {o a : Station} {e : Epoch} {i : Input} {c : CustodyEntry} {r : Record} {x : Hit}
  {f : Frame} {bytes : List Byte}

/-! ### Events are added at the tail (R162, R163) -/

/-- `t` has the event records of `s`, and more behind them. -/
def Recorded (s t : State) : Prop := ∃ later, t.events.records = s.events.records ++ later

theorem Recorded.refl (s : State) : Recorded s s := ⟨[], by simp⟩

theorem Recorded.of_eq (h : t.events.records = s.events.records) : Recorded s t := ⟨[], by simp [h]⟩

theorem Recorded.trans (h : Recorded s t) (k : Recorded t u) : Recorded s u := by
  obtain ⟨l, h⟩ := h
  obtain ⟨m, k⟩ := k
  exact ⟨l ++ m, by rw [k, h, List.append_assoc]⟩

theorem raise_recorded (ev : Event) (s : State) : Recorded s (raise ev s) := by
  rw [raise_eq]
  unfold EventQueue.record
  split
  · split
    · exact ⟨_, rfl⟩
    · exact .of_eq rfl
  · exact .refl s

theorem evaluate_recorded (g : Group) (t : State) : Recorded t (evaluate g t) := by
  cases hused : (t.groupDesc g).used with
  | false => rw [evaluate_of_unused hused]; exact .refl t
  | true =>
    refine evaluate_keeps (F := fun _ => True) (L := Recorded t) (fun hm ht => ht.trans ?_) (fun ht => ht.trans (.of_eq rfl))
      hused (.refl t)
    cases hm with
    | raise ev => exact raise_recorded ev _
    | enqueue taken => exact .of_eq rfl
    | owe b tripped => exact .of_eq rfl
    | place r counts fits latched => exact .of_eq rfl

theorem passToVoter_recorded (p : Point) (s : State) : Recorded s (passToVoter p s) := by
  rw [passToVoter_eq_foldl_evaluate]
  exact foldl_rel (R := Recorded) .refl .trans (fun t g => evaluate_recorded g t) _ s

theorem heardByVoter_recorded (p : Point) (z z' : MirrorEntry) (s : State) : Recorded s (heardByVoter p z z' s) := by
  unfold heardByVoter
  split
  · exact .refl s
  · exact passToVoter_recorded p s

/-! ### A point made due (R93) -/

/-- The publication of other points is as it was, and no step but this point's own has been taken on the publisher. -/
structure OnlyDue (p : Point) (s t : State) : Prop where
  publisher : PublisherStep s t
  records : ∀ q, q ≠ p → t.publisher.records.get q = s.publisher.records.get q
  carried : (t.publisher.records.get p).carried = (s.publisher.records.get p).carried
  others : t.publisher.list.filter (· != p) = s.publisher.list.filter (· != p)
  listed : p ∈ s.publisher.list → p ∈ t.publisher.list

theorem OnlyDue.refl (p : Point) (s : State) : OnlyDue p s s := ⟨⟨_, rfl⟩, fun _ _ => rfl, rfl, rfl, id⟩

theorem OnlyDue.trans (h : OnlyDue p s t) (k : OnlyDue p t u) : OnlyDue p s u where
  publisher := by
    obtain ⟨b, rfl⟩ := h.publisher
    obtain ⟨d, rfl⟩ := k.publisher
    exact ⟨d, rfl⟩
  records := fun q hq => (k.records q hq).trans (h.records q hq)
  carried := k.carried.trans h.carried
  others := k.others.trans h.others
  listed := fun hp => k.listed (h.listed hp)

theorem makeDue_onlyDue (p : Point) (s : State) : OnlyDue p s (makeDue p s) := by
  by_cases hp : p ∈ s.publisher.list
  · cases hc : (s.publisher.records.get p).carried with
    | false => rw [makeDue_of_listed hp hc]; exact .refl p s
    | true =>
      rw [makeDue_of_carried hp hc]
      exact ⟨⟨_, rfl⟩, fun q hq => by simp [State.setPub, hq], by simp [State.setPub], rfl, id⟩
  · rw [makeDue_of_absent hp]
    exact ⟨⟨_, rfl⟩, fun _ _ => rfl, rfl, by simp [State.withPublishList], fun h => absurd h hp⟩

theorem makeDue_listed (p : Point) (s : State) : p ∈ (makeDue p s).publisher.list := by
  by_cases hp : p ∈ s.publisher.list
  · exact (makeDue_onlyDue p s).listed hp
  · rw [makeDue_of_absent hp]; simp [State.withPublishList]

theorem passToPublisher_cases (p : Point) (q : Quality) (y : Hit) (s : State) :
    passToPublisher p q y s = s ∨ passToPublisher p q y s = makeDue p s := by
  unfold passToPublisher
  split
  · exact .inr rfl
  · exact .inl rfl

theorem makeDue_passed_onlyDue (p : Point) (q : Quality) (y : Hit) (s : State) :
    OnlyDue p s (makeDue p (passToPublisher p q y s)) := by
  have h : OnlyDue p s (passToPublisher p q y s) := by
    rcases passToPublisher_cases p q y s with h | h <;> rw [h]
    · exact .refl p s
    · exact makeDue_onlyDue p s
  exact h.trans (makeDue_onlyDue p _)

/-- A point that is neither listed nor carried joins the tail alone, however often it is made due. -/
theorem makeDue_passed_of_absent (q : Quality) (y : Hit) (hp : p ∉ s.publisher.list)
    (hc : (s.publisher.records.get p).carried = false) :
    makeDue p (passToPublisher p q y s) = s.withPublishList (s.publisher.list ++ [p]) := by
  rcases passToPublisher_cases p q y s with h | h <;> rw [h, makeDue_of_absent hp]
  exact makeDue_of_listed (by simp [State.withPublishList]) hc

/-! ### Re-examinations that find nothing due (R75 to R78) -/

theorem reexamine_of_not_due (hc : s.custody.table.get i = some c) (hclaim : ¬ ClaimDueNow s i c)
    (hreclaim : ¬ ReclaimDueNow s c) : reexamine i s = s :=
  (reexamine_claim_cases hc fun _ => hreclaim).1 fun h => hclaim h.2

/-- A station makes no claim to a point that it owns. -/
theorem reexamine_of_own (hc : s.custody.table.get i = some c) (ho : (s.mirror.get c.point).owner = some s.own)
    (hother : otherStation (s.desc c.point) c.role ≠ some s.own) : reexamine i s = s := by
  have howns : s.otherOwns c = false := by
    unfold State.otherOwns
    cases hs : otherStation (s.desc c.point) c.role with
    | none => rfl
    | some b => simpa [ho] using fun heq => hother (by rw [hs, heq])
  refine reexamine_of_not_due hc ?_ ?_ <;>
    simp [ClaimDueNow, ReclaimDueNow, State.claimHolds, State.reclaimHolds, howns]

theorem otherStation_ne_own (hb : BoundAt s p i c) : otherStation (s.desc p) c.role ≠ some s.own := by
  obtain ⟨-, -, -, -, -, -, hrole, -, hne⟩ := hb
  cases hr : c.role with
  | home => exact fun h => hne ((hrole.mp hr).trans h.symm)
  | standby => exact fun h => by simpa [hr] using hrole.mpr h

/-- While the other station is PRESENT, the re-examination of an entry without a lapsed wait and with its holdoff begun finds
nothing due. -/
theorem reexamine_of_present (hc : s.custody.table.get i = some c)
    (hs : otherStation (s.desc c.point) c.role = some o) (hpresent : (s.roster.entries.get o).state = .present)
    (hcase : c.role = .standby ∨ c.lapsed = false ∧ c.holdoff ≠ .stopped) : reexamine i s = s := by
  have hstate : s.otherState c = .present := by rw [State.otherState, hs]; exact hpresent
  cases hr : c.role with
  | standby =>
    refine reexamine_of_not_due hc ?_ ?_ <;>
      simp [ClaimDueNow, ReclaimDueNow, State.claimHolds, State.reclaimHolds, hr, hstate, RosterState.away]
  | home =>
    obtain ⟨hlapsed, hholdoff⟩ := hcase.resolve_left (by simp [hr])
    refine reexamine_of_not_due hc ?_ ?_
    · simp [ClaimDueNow, State.claimHolds, hr, hstate, RosterState.away, hlapsed]
    · simp [ReclaimDueNow, hholdoff]

/-! ### Records written elsewhere -/

/-- The entry that a taken record leaves (R10, R69). -/
def takenEntry (s : State) (p : Point) (o : Station) (r : Record) (x : Hit) : MirrorEntry :=
  Safety.written { s.mirror.get p with
      owner := some o, epoch := if (s.mirror.get p).epoch < r.epoch then r.epoch else (s.mirror.get p).epoch }
    (s.desc p).freshness r.quality (placedHit (s.desc p) (s.mirror.get p).hit x) (placedValue (s.desc p) r)

theorem contentTaken_eq (s : State) (p : Point) (o : Station) (r : Record) (x : Hit) :
    contentTaken s p o r x false = heardByVoter p (s.mirror.get p) (takenEntry s p o r x)
      { s with mirror := s.mirror.set p (takenEntry s p o r x) } := by
  unfold contentTaken heardByVoter takenEntry
  extract_lets
  rfl

theorem takenEntry_kept (ho : (s.mirror.get p).owner = some o) (he : r.epoch ≤ (s.mirror.get p).epoch) :
    takenEntry s p o r x = Safety.written (s.mirror.get p) (s.desc p).freshness r.quality
      (placedHit (s.desc p) (s.mirror.get p).hit x) (placedValue (s.desc p) r) := by
  rw [takenEntry, if_neg (by simpa using he), ← ho]

/-! ### The point released here (R69, R70, R99) -/

theorem contentTaken_voterStep (s : State) (p : Point) (o : Station) (r : Record) (x : Hit) :
    VoterStep { s with mirror := s.mirror.set p (takenEntry s p o r x) } (contentTaken s p o r x false) := by
  rw [contentTaken_eq]
  exact heardByVoter_voterStep ..

theorem contentTaken_recorded (s : State) (p : Point) (o : Station) (r : Record) (x : Hit) :
    Recorded s (contentTaken s p o r x false) := by
  have h := heardByVoter_recorded p (s.mirror.get p) (takenEntry s p o r x)
    { s with mirror := s.mirror.set p (takenEntry s p o r x) }
  rw [contentTaken_eq]
  exact h

/-- What a release with its record write leaves and sets, ahead of the re-examination. -/
theorem released_facts (s : State) (c : CustodyEntry) (how : ReleaseDetail) (he : r.epoch = e) :
    let t := contentTaken (releasedState s p i c o e how) p o r x false
    OthersKept s t p i ∧ t.contexts.get i = { s.contexts.get i with role := .shadow } ∧
      t.mirror.get p = Safety.written { s.mirror.get p with owner := some o, epoch := r.epoch } (s.desc p).freshness
        r.quality (placedHit (s.desc p) (s.mirror.get p).hit x) (placedValue (s.desc p) r) ∧
      t.custody.table.get i = some (Safety.demoted s c) ∧ p ∉ t.publisher.list ∧
      t.publisher.records.get p = State.reset.publisher.records.get p ∧
      t.roster = s.roster ∧ t.link = { s.link with urgent := t.link.urgent } ∧
      Recorded (raise (.pointReleased p e o how) s) t := by
  intro t
  have hv : VoterStep _ t := contentTaken_voterStep (releasedState s p i c o e how) p o r x
  have hrec : Recorded (raise (.pointReleased p e o how) s) t :=
    Recorded.trans (.of_eq rfl) (contentTaken_recorded (releasedState s p i c o e how) p o r x)
  have hentry : (releasedState s p i c o e how).mirror.get p = { s.mirror.get p with owner := some o, epoch := e } :=
    releasedState_entry how
  have hmirror : t.mirror = (releasedState s p i c o e how).mirror.set p (takenEntry (releasedState s p i c o e how) p o r x) :=
    hv.mirror
  refine ⟨⟨hv.control, hv.sample, fun j hj => ?_, fun q hq => ?_, fun j hj => ?_, ?_, fun q hq => ?_, ?_, ?_, hv.port, hv.pending⟩,
    ?_, ?_, ?_, ?_, ?_, hv.roster, hv.link, hrec⟩
  · rw [hv.contexts]; exact Table.get_set_ne _ _ hj
  · rw [hmirror, Table.get_set_ne _ _ hq]; exact Table.get_set_ne _ _ hq
  · rw [hv.custody]; exact Table.get_set_ne _ _ hj
  · rw [hv.custody]; rfl
  · rw [hv.publisher]; exact Table.get_set_ne _ _ hq
  · rw [hv.publisher]; simp [releasedState, demotedState, List.filter_filter]
  · rw [hv.time]; exact raise_time _ s
  · rw [hv.contexts]; exact Table.get_set_self ..
  · rw [hmirror, Table.get_set_self, takenEntry, hentry, he]
    simp only [BitVec.lt_irrefl, if_false]
    rfl
  · rw [hv.custody]; exact Table.get_set_self ..
  · rw [hv.publisher]; simp [releasedState, demotedState]
  · rw [hv.publisher]; exact Table.get_set_self ..

/-! ### The point acquired here (R69, R71, R93) -/

theorem announcedState_facts (s : State) (p : Point) (i : Input) (e : Epoch) (path : AcquirePath) (y : Context) :
    ∃ u, VoterStep (acquiredState s p i e path y) u ∧ OnlyDue p u (announcedState s p i e path y) ∧
      Recorded (raise (.pointAcquired p e path) s) u ∧
      announcedState s p i e path y = makeDue p (passToPublisher p (s.mirror.get p).quality (s.mirror.get p).hit u) := by
  refine ⟨_, heardByVoter_voterStep p _ _ _, makeDue_passed_onlyDue p _ _ _, ?_, rfl⟩
  exact Recorded.trans (.of_eq (by rw [acquiredState]; exact congrArg EventQueue.records (raise_events_congr _ rfl rfl)))
    (heardByVoter_recorded p _ _ _)

/-- What a promotion leaves and sets, ahead of the re-examination. -/
theorem promoted_facts (s : State) (p : Point) (i : Input) (c : CustodyEntry) (e : Epoch) (path : AcquirePath) (y : Context) :
    let t := promotedState s p i c e path y
    OthersKept s t p i ∧ t.contexts.get i = y ∧ t.mirror.get p = promotedEntry s p e y ∧
      t.custody.table.get i = some (promoted c) ∧ p ∈ t.publisher.list ∧
      (p ∉ s.publisher.list → (s.publisher.records.get p).carried = false →
        t.publisher.list = s.publisher.list ++ [p] ∧ t.publisher.records = s.publisher.records) ∧
      t.roster = s.roster ∧ t.link = { s.link with urgent := t.link.urgent } ∧
      Recorded (raise (.pointAcquired p e path) s) t := by
  intro t
  obtain ⟨u, hv, hd, hrec, hdue⟩ := announcedState_facts s p i e path y
  have hfields : t = { announcedState s p i e path y with
      custody := { s.custody with table := s.custody.table.set i (some (promoted c)) } } := rfl
  obtain ⟨pub, hpub⟩ := hd.publisher
  have hrecords := hd.records
  have hothers := hd.others
  have hlisted : p ∈ (announcedState s p i e path y).publisher.list := by rw [hdue]; exact makeDue_listed p _
  rw [hpub] at hfields hrecords hothers hlisted
  rw [hfields]
  have hupub : u.publisher = s.publisher := by rw [hv.publisher]; simp [acquiredState]
  have hmirror : u.mirror = s.mirror.set p (promotedEntry s p e y) := by rw [hv.mirror]; simp [acquiredState]
  have hcontexts : u.contexts = s.contexts.set i y := by rw [hv.contexts]; simp [acquiredState]
  refine ⟨⟨?_, ?_, fun j hj => ?_, fun q hq => ?_, fun j hj => ?_, rfl, fun q hq => ?_, ?_, ?_, ?_, ?_⟩,
    ?_, ?_, Table.get_set_self .., hlisted, fun hp hc => ?_, ?_, ?_, hrec⟩
  · exact hv.control.trans (by simp [acquiredState])
  · exact hv.sample.trans (by simp [acquiredState])
  · show u.contexts.get j = _
    rw [hcontexts, Table.get_set_ne _ _ hj]
  · show u.mirror.get q = _
    rw [hmirror, Table.get_set_ne _ _ hq]
  · exact Table.get_set_ne _ _ hj
  · rw [← hupub]; exact hrecords q hq
  · rw [← hupub]; exact hothers
  · exact hv.time.trans (by simp [acquiredState])
  · exact hv.port.trans (by simp [acquiredState])
  · exact hv.pending.trans (by simp [acquiredState])
  · show u.contexts.get i = _
    rw [hcontexts, Table.get_set_self]
  · show u.mirror.get p = _
    rw [hmirror, Table.get_set_self]
  · have h := hdue
    rw [makeDue_passed_of_absent _ _ (by rwa [hupub]) (by rwa [hupub]), hpub] at h
    have hp := congrArg State.publisher h
    rw [show pub = { u.publisher with list := u.publisher.list ++ [p] } from hp, hupub]
    exact ⟨rfl, rfl⟩
  · exact hv.roster.trans (by simp [acquiredState])
  · show u.link = _
    rw [hv.link]; simp [acquiredState]

/-- After a promotion there is no claim left to make to the point. -/
theorem reexamine_of_promoted {path : AcquirePath} {y : Context} (hb : BoundAt s p i c) :
    reexamine i (promotedState s p i c e path y) = promotedState s p i c e path y := by
  obtain ⟨hothers, -, hentry, htable, -⟩ := promoted_facts s p i c e path y
  have hcp : c.point = p := hb.2.2.2.1
  refine reexamine_of_own htable ?_ ?_
  · rw [promoted_point, hcp, hentry, State.own, hothers.1]; rfl
  · have hrole : (promoted c).role = c.role := by unfold promoted; split <;> rfl
    rw [promoted_point, hcp, hrole, State.desc, State.own, hothers.1]
    exact otherStation_ne_own hb

/-! ### Frames of one record -/

theorem dispatchFrame_point (h : f.payload = .point [r]) (own : Bool) (s : State) :
    dispatchFrame f own s = takePointRecord f.sender s r := by
  rw [dispatchFrame, h]; rfl

theorem dispatchFrame_claim {y : CustodyRecord} (h : f.payload = .claim [y]) (own : Bool) (s : State) :
    dispatchFrame f own s = takeClaimRecord f.sender s y := by
  rw [dispatchFrame, h]; rfl

theorem dispatchFrame_yield {y : CustodyRecord} (h : f.payload = .yield [y]) (own : Bool) (s : State) :
    dispatchFrame f own s = takeYieldRecord f.sender s y := by
  rw [dispatchFrame, h]; rfl

theorem exec_pointFrame_of_partner (h : PartnerFrame s bytes f) (hp : f.payload = .point [r]) :
    exec (.pointFrame bytes) s = .next (takePointRecord f.sender (admittedState f s) r) :=
  congrArg Host.Outcome.next
    ((receiveFrame_of_partner h (by rw [hp]; rfl)).trans (dispatchFrame_point hp false _))

theorem exec_claimFrame_of_partner {y : CustodyRecord} (h : PartnerFrame s bytes f) (hp : f.payload = .claim [y]) :
    exec (.claimFrame bytes) s = .next (takeClaimRecord f.sender (admittedState f s) y) :=
  congrArg Host.Outcome.next
    ((receiveFrame_of_partner h (by rw [hp]; rfl)).trans (dispatchFrame_claim hp false _))

theorem exec_yieldFrame_of_partner {y : CustodyRecord} (h : PartnerFrame s bytes f) (hp : f.payload = .yield [y]) :
    exec (.yieldFrame bytes) s = .next (takeYieldRecord f.sender (admittedState f s) y) :=
  congrArg Host.Outcome.next
    ((receiveFrame_of_partner h (by rw [hp]; rfl)).trans (dispatchFrame_yield hp false _))

theorem exec_pointFrame_of_own (h : OwnLoopback s bytes f) (hp : f.payload = .point [r]) :
    exec (.pointFrame bytes) s = .next (takePointRecord s.own (heardBack f s) r) :=
  congrArg Host.Outcome.next ((receiveFrame_of_own h).trans (h.2.2.2 ▸ dispatchFrame_point hp true _))

theorem exec_claimFrame_of_own {y : CustodyRecord} (h : OwnLoopback s bytes f) (hp : f.payload = .claim [y]) :
    exec (.claimFrame bytes) s = .next (takeClaimRecord s.own (heardBack f s) y) :=
  congrArg Host.Outcome.next ((receiveFrame_of_own h).trans (h.2.2.2 ▸ dispatchFrame_claim hp true _))

theorem exec_yieldFrame_of_own {y : CustodyRecord} (h : OwnLoopback s bytes f) (hp : f.payload = .yield [y]) :
    exec (.yieldFrame bytes) s = .next (takeYieldRecord s.own (heardBack f s) y) :=
  congrArg Host.Outcome.next ((receiveFrame_of_own h).trans (h.2.2.2 ▸ dispatchFrame_yield hp true _))

theorem recordContent_some {m : PublishMode} {y : Content} (h : recordContent m r = some y) :
    recordContent m r = some { quality := r.quality, hit := y.hit, value := r.value } := by
  unfold recordContent at h ⊢
  cases hz : hitOfCode r.hit with
  | none => rw [hz] at h; cases h
  | some z =>
    rw [hz] at h
    dsimp only at h ⊢
    by_cases hok : r.quality = .good ∧ r.value = none ∧ m ≠ .hitOnly
    · rw [if_pos hok] at h; cases h
    · rw [if_neg hok] at h ⊢; cases h; rfl

/-- At a point that changes hands here, a bound context's debounce state is loaded before it begins to act (R43, R71). -/
theorem loadHandover_setOwner (hb : BoundAt s p i c) (v : Handover) (y : Content) :
    loadHandover p { content := some y, handover := some v, isYield := true } (setOwner p s.own e s) =
      { moved s p s.own e with
        contexts := s.contexts.set i { loadContext (s.desc p) y.hit v (s.contexts.get i) with role := .acting } } := by
  have hcontexts : (s.contexts.set i { s.contexts.get i with role := roleOf s s.own }).map
      (fun c => if c.point = some p then loadContext (s.desc p) y.hit v c else c) =
      s.contexts.set i { loadContext (s.desc p) y.hit v (s.contexts.get i) with role := .acting } := by
    obtain ⟨hp, huniq, -⟩ := hb
    refine Table.ext_get fun j => ?_
    rw [Table.get_map, Table.get_set, Table.get_set]
    by_cases hj : j = i
    · rw [if_pos hj, if_pos hj, if_pos hp, roleOf, if_pos rfl]
      rfl
    · rw [if_neg hj, if_neg hj, if_neg fun hpj => hj (huniq j hpj)]
  rw [setOwner_of_boundAt hb]
  exact congrArg (fun x => { moved s p s.own e with contexts := x }) hcontexts

/-! ### The debounce state that a YIELD loads (R43) -/

section

variable {d : PointDesc} {carried : Hit} {w : Handover} {y : Context}

theorem loadedHit_valueOnly (h : d.publish = .valueOnly) (own : Hit) : loadedHit d own carried = .none := if_pos h

theorem loadedHit_clear (h : d.publish ≠ .valueOnly) (own : Hit) : loadedHit d own .clear = .clear := if_neg h

theorem loadedHit_none (h : d.publish ≠ .valueOnly) (own : Hit) : loadedHit d own .none = own := if_neg h

theorem loadedHit_side (h : d.publish ≠ .valueOnly) (own : Hit) (x : Side) :
    loadedHit d own (.side x) = if d.compare.produces x then .side x else own := if_neg h

theorem loadedCandidate_eq_some {hit : Hit} {k : Option Side} {x : Side} : loadedCandidate d hit k = some x ↔
    k = some x ∧ d.publish ≠ .valueOnly ∧ d.compare.produces x = true ∧ hit ≠ .side x := by
  unfold loadedCandidate
  cases k with
  | none => simp
  | some z =>
    simp only [Option.some.injEq]
    constructor
    · intro h
      split at h
      next hc => cases h; exact ⟨rfl, hc⟩
      next => cases h
    · rintro ⟨rfl, hc⟩
      exact if_pos hc

end

end

end Sys2Proof.Machine

end

section

namespace Sys2Proof.Proofs

open Sys2Proof.Machine Sys2Proof.Safety

/-- Settles O36: a record of the owner at the epoch held is the record write, and the own one is the self-owner case. -/
theorem pointRecordsTaken : Obligations.PointRecordsTaken := by
  refine ⟨fun s bytes f r p h hf hp hpoint hhit hok huse ho he hserves hrole => ?_,
    fun s bytes f r p i hf hp hpoint huse ho he hserves hi hacting huniq => ?_⟩
  · intro e u e' t
    have hown : f.sender ≠ u.own := hf.1.2.2.2
    have hq : Quiet u p f.sender := ⟨fun i hi => by rw [roleOf, if_neg hown]; exact hrole i hi, .inl ho⟩
    have hle : r.epoch ≤ (u.mirror.get p).epoch := BitVec.le_of_eq he
    have htaken := (takes_of_kept (s := u) hpoint huse ho hserves (recordContent_of_hit hhit hok) hq hown rfl hle).1
    have hlt : ¬ r.epoch < (u.mirror.get p).epoch := fun hlt => BitVec.ne_of_lt hlt he
    rw [decide_eq_false hlt, contentTaken_eq, takenEntry_kept (s := u) ho hle] at htaken
    rw [exec_pointFrame_of_partner hf hp, htaken]
    refine ⟨fun hquality hkept => congrArg _ (if_pos ⟨hquality, hkept⟩), fun hne => congrArg _ (if_neg fun hc => ?_)⟩
    exact hne.elim (fun hn => hn hc.1) (fun hn => hn hc.2)
  · let u := heardBack f s
    rw [exec_pointFrame_of_own hf hp]
    refine congrArg _ ?_
    have hq : Quiet u p s.own :=
      ⟨fun j hj => by rw [huniq j hj]; exact hacting.trans (if_pos (rfl : s.own = u.own)).symm, .inl ho⟩
    have hbound : s.boundInput p = some i := find?_finRange_eq_some (by simpa using hi) fun j hj => by
      simpa using fun hpj => absurd (huniq j hpj) (ne_of_lt hj)
    rcases option_cases (recordContent (u.desc p).publish r) with hnone | ⟨y, hy⟩
    · exact takePointRecord_of_no_content (s := u) hpoint hnone
    · rw [takePointRecord_of_content hpoint hy]
      have hacc : acceptance (u.desc p) (u.mirror.get p) s.own r.epoch false = .accepted s.own r.epoch false :=
        acceptance_same_ge huse hserves ho (BitVec.le_of_eq he.symm)
      rw [hacc]
      exact applyVerdict_same_epoch hq ho he.symm (.inr ⟨rfl, hbound⟩)

/-- Settles O37: the promotion of R71, with no claim left to make to the point. -/
theorem ownClaimPromotes : Obligations.OwnClaimPromotes := by
  intro s bytes f r p i c o hf hp hpoint hcontent hpair hb ho hne he hcarried x
  let u := heardBack f s
  obtain ⟨y, hy⟩ := Option.ne_none_iff_exists'.mp hcontent
  have hbu : BoundAt u p i c := hb
  obtain ⟨-, -, -, -, -, huse, -, hserves, -⟩ := id hb
  have htaken : takeClaimRecord s.own u r =
      reexamine i (promotedState u p i c r.record.epoch .claim { x with role := .acting }) :=
    ((takes_of_self (s := u) hpoint (recordContent_some hy) hbu rfl).2 r.debounce hpair).trans
      (takeStatement_promotes (s := u) hpoint huse ho hserves hne.symm (.inl he) hbu rfl)
  obtain ⟨hothers, hcontext, hentry, htable, hlisted, habsent, hroster, hlink, hevents⟩ :=
    promoted_facts u p i c r.record.epoch .claim { x with role := .acting }
  have hidle := reexamine_of_promoted (path := .claim) (e := r.record.epoch) (y := { x with role := .acting }) hbu
  refine ⟨_, (exec_claimFrame_of_own hf hp).trans (congrArg _ (htaken.trans hidle)), hothers, hcontext, hentry, htable,
    hlisted, fun hp => habsent hp hcarried, hroster, hlink, ?_⟩
  obtain ⟨later, hlater⟩ := hevents
  exact ⟨later, by rw [hlater, raise_events_congr (t := u) (u := s) _ rfl rfl]⟩

/-- Settles O38: the promotion of R71 with the context that the YIELD has loaded, and `loadContext` field by field. -/
theorem yieldPromotesTheHome : Obligations.YieldPromotesTheHome := by
  refine ⟨fun s bytes f r p i c h w hf hp hpoint hcontent hpair hb hhome hstandby ho hle => ?_, fun d carried w c => ?_⟩
  · intro x
    let u := admittedState f s
    have hown : f.sender ≠ u.own := hf.1.2.2.2
    have hbu : BoundAt u p i c := hb
    obtain ⟨hi, -, -, hcp, -, huse, -⟩ := id hbu
    have hacc : yieldAcceptance (u.desc p) (u.mirror.get p) f.sender r.record.epoch = .accepted u.own r.record.epoch false :=
      yieldAcceptance_standby_ge huse hstandby hhome hown ho hle
    have hload : takeYieldRecord f.sender u r = reexamine i (promotedState u p i c r.record.epoch .yield x) := by
      rw [takeYieldRecord_of_content (s := u) hpoint hcontent hpair, hacc]
      exact applyVerdict_promotes (s := u) hbu (fun h => hown (Option.some.inj (ho.symm.trans h))) hi rfl
        (loadHandover_setOwner (s := u) hbu w _)
    obtain ⟨hothers, hcontext, hentry, htable, hlisted, -, hroster, hlink, later, hlater⟩ :=
      promoted_facts u p i c r.record.epoch .yield x
    have hidle := reexamine_of_promoted (path := .yield) (e := r.record.epoch) (y := x) hbu
    have hquiet : (admittedState f s).link = { s.link with jammed := false } := by
      show anchored f s.link = _
      rw [anchored, anchorOf, hp]
      have hloop : s.link.loopback = none := hf.1.2.1
      rw [← hloop]
    refine ⟨_, (exec_yieldFrame_of_partner hf hp).trans (congrArg _ (hload.trans hidle)), hothers, hcontext, hentry, htable,
      hlisted, hroster, ?_, later, by rw [hlater, raise_events_congr (t := u) (u := s) _ rfl rfl]⟩
    rw [hlink, hquiet]
  · intro t
    refine ⟨rfl, loadedHit_valueOnly (own := c.hit), fun hmode => ⟨?_, ?_, ?_, ?_⟩, fun x => loadedCandidate_eq_some,
      fun hnone => if_pos hnone, fun hsome => ⟨if_neg hsome, if_pos (.inl hsome)⟩, fun hmode => if_pos (.inr hmode),
      fun hnone hmode => ?_⟩
    · exact fun hc => (congrArg (loadedHit d c.hit) hc).trans (loadedHit_clear hmode c.hit)
    · intro x hc hx
      exact ((congrArg (loadedHit d c.hit) hc).trans (loadedHit_side hmode c.hit x)).trans (if_pos hx)
    · intro x hc hx
      exact ((congrArg (loadedHit d c.hit) hc).trans (loadedHit_side hmode c.hit x)).trans (if_neg (by simp [hx]))
    · exact fun hc => (congrArg (loadedHit d c.hit) hc).trans (loadedHit_none hmode c.hit)
    · have hneither : ¬ (t.candidate ≠ none ∨ d.publish = .valueOnly) := by simp [hnone, hmode]
      exact ⟨fun hclear => (if_neg hneither).trans (if_pos hclear), fun hclear => (if_neg hneither).trans (if_neg hclear)⟩

/-- Settles O39: the release of R70 with the record write, and a standby whose home is PRESENT claims nothing. -/
theorem ownYieldDemotes : Obligations.OwnYieldDemotes := by
  intro s bytes f r p i c h a hf hp hpoint hcontent hpair hb hrole hhome ho hle e
  let u := heardBack f s
  have hbu : BoundAt u p i c := hb
  obtain ⟨-, -, -, hcp, -, huse, hhomerole, hserves, -⟩ := id hbu
  have hown : u.own ≠ a := fun heq => by
    have := hhomerole.mpr (hhome.trans (congrArg some heq.symm))
    simp [hrole] at this
  have hstandby : (u.desc p).standbyStation = some u.own :=
    hserves.resolve_left fun hh => hown (Option.some.inj (hh.symm.trans hhome))
  obtain ⟨w, hw⟩ := Option.ne_none_iff_exists'.mp hpair
  let t := contentTaken (releasedState u p i c a r.record.epoch .yielded) p a r.record h false
  have htaken : takeYieldRecord s.own u r = reexamine i t := by
    have hacc : yieldAcceptance (u.desc p) (u.mirror.get p) s.own r.record.epoch = .accepted a r.record.epoch false :=
      yieldAcceptance_standby_ge huse hstandby hhome hown ho hle
    rw [takeYieldRecord_of_content (s := u) hpoint hcontent hw, hacc]
    exact applyVerdict_demotes_content (s := u) hbu ho hown.symm rfl rfl
  obtain ⟨hothers, hcontext, hentry, htable, hlisted, hrecord, hroster, hlink, later, hlater⟩ :
      OthersKept u t p i ∧ _ := released_facts u c .yielded rfl
  have hdemoted : Safety.demoted u c = { c with yieldDue := false } := by simp [Safety.demoted, hrole]
  rw [hdemoted] at htable
  refine ⟨t, (exec_yieldFrame_of_own hf hp).trans (congrArg _ htaken), fun hpresent => ?_, hothers, hcontext, hentry, htable,
    hlisted, hrecord, hroster, hlink, later, by rw [hlater, raise_events_congr (t := u) (u := s) _ rfl rfl]⟩
  refine reexamine_of_present htable ?_ (o := a) (by rw [hroster]; exact hpresent) (.inl hrole)
  rw [hrole, State.desc, hothers.1]
  exact hcp.symm ▸ hhome

/-- Settles O40: the release of R70 with the record write, from either kind of record. -/
theorem standbyClaimDemotesTheHome : Obligations.StandbyClaimDemotesTheHome := by
  intro s bytes f r p i c h cmd hf hpoint hkind hcontent hb hserves ho hepoch e
  let u := admittedState f s
  have hbu : BoundAt u p i c := hb
  obtain ⟨-, -, -, hcp, -, huse, hrole, hown, hdiffer⟩ := id hbu
  have hforeign : f.sender ≠ u.own := hf.1.2.2.2
  have hother : otherStation (u.desc p) c.role = some f.sender := by
    cases hr : c.role with
    | home =>
      exact hserves.resolve_left fun hh => hforeign (Option.some.inj (hh.symm.trans (hrole.mp hr)))
    | standby =>
      have hnot : (u.desc p).homeStation ≠ some u.own := fun hh => by simpa [hr] using hrole.mpr hh
      exact hserves.resolve_right fun hh => hforeign (Option.some.inj (hh.symm.trans (hown.resolve_left hnot)))
  have hwins : (u.mirror.get p).epoch < r.record.epoch ∨ r.record.epoch = (u.mirror.get p).epoch ∧
      (u.desc p).homeStation = some f.sender ∧ (u.desc p).standbyStation = some u.own := by
    refine hepoch.imp_right fun ⟨heq, hh⟩ => ⟨heq.symm, hh, hown.resolve_left fun hc => ?_⟩
    exact hforeign (Option.some.inj (hh.symm.trans hc))
  let t := contentTaken (releasedState u p i c f.sender r.record.epoch .demoted) p f.sender r.record h false
  have htakes : Takes f.sender u r.record (reexamine i t) :=
    takes_of_demoted (s := u) hpoint huse ho hserves hcontent hbu rfl hforeign hwins
  have hexec : exec cmd s = .next (reexamine i t) := by
    rcases hkind with ⟨hp, hpair, rfl⟩ | ⟨hp, rfl⟩
    · exact (exec_claimFrame_of_partner hf hp).trans (congrArg _ (htakes.2 r.debounce hpair))
    · exact (exec_pointFrame_of_partner hf hp).trans (congrArg _ htakes.1)
  obtain ⟨hothers, hcontext, hentry, htable, hlisted, hrecord, hroster, hlink, later, hlater⟩ :
      OthersKept u t p i ∧ _ := released_facts u c .demoted rfl
  refine ⟨t, hexec, fun hquiet => ?_, hothers, hcontext, hentry, htable, hlisted, hrecord, hroster, hlink, later,
    by rw [hlater, raise_events_congr (t := u) (u := s) _ rfl rfl]⟩
  refine reexamine_of_present htable (o := f.sender) ?_ ?_ ?_
  · rw [State.desc, hothers.1]
    exact hcp.symm ▸ hother
  · rw [hroster]
    show ((s.roster.entries.set f.sender _).get f.sender).state = _
    rw [Table.get_set_self]
    exact hf.2
  · cases hr : c.role with
    | standby => exact .inl hr
    | home =>
      refine .inr ⟨hquiet.resolve_left (by simp [hr]), ?_⟩
      simp only [Safety.demoted, hr, if_true]
      split <;> simp

end Sys2Proof.Proofs

end

/-! Access to the link, what a win sends, and how the station's own frame ends. -/

section

namespace Sys2Proof.Machine

open Sys2Proof.Safety

section

variable {s t u : State} {p : Point} {d : Deferral} {c : LinkClass} {f : Frame} {r : Request} {rest : List Request}

/-! ### Classes and offsets (R121, R135, R136) -/

theorem offeredClass_eq (s : State) : offeredClass s = offers s := by
  unfold offeredClass offers
  cases hfirst : s.roster.firstPresence with
  | false => simp
  | true => cases hq : s.link.urgent <;> cases hl : s.publisher.list <;> simp

theorem rotation_eq (own anchor : Station) : (rotation own anchor : Int) = ((own.val : Int) - anchor.val - 1) % 16 := by
  unfold rotation
  omega

theorem idleEvent_eq (ha : s.active = true) (hfree : Free s) : idleEvent s =
    { s with link := { s.link with
      loopback := none, ignoring := false, jammed := false
      deferral := if s.control.state = .run then (offers s).map (fun c => { linkClass := c, offset := offsetOf s c })
        else none } } := by
  unfold idleEvent
  rw [if_pos (by rw [State.receiving, ha, (free_iff_Free s).mpr hfree]; rfl), offeredClass_eq]
  rfl

/-! ### Wins (R138, R139) -/

/-- The conditions under which a slot is a win. -/
structure Wins (s : State) (d : Deferral) : Prop where
  released : s.control.rstAsserted = false
  run : s.control.state = .run
  free : Free s
  deferral : s.link.deferral = some d

theorem exec_win (h : Wins s d) : exec .win s = .next (winClass d.linkClass (s.withDeferral none)) :=
  congrArg Host.Outcome.next (winSlot_of_deferral h.released h.run h.free h.deferral)

theorem exec_win_urgent (h : Wins s d) (hc : d.linkClass = .urgent) (hq : s.link.urgent = r :: rest) :
    exec .win s = .next (sendOrWithdraw (fun s => departure (dequeue r s)) (assembleRequest r (s.withDeferral none))) := by
  rw [exec_win h, hc, winClass]
  have hq : (s.withDeferral none).link.urgent = r :: rest := hq
  rw [hq]

theorem sendOrWithdraw_some {withdraw : State → State} {a : State × Option Payload} {x : Payload} (h : a.2 = some x) :
    sendOrWithdraw withdraw a = beginFrame x a.1 := by rw [sendOrWithdraw, h]

theorem sendOrWithdraw_none {withdraw : State → State} {a : State × Option Payload} (h : a.2 = none) :
    sendOrWithdraw withdraw a = withdraw a.1 := by rw [sendOrWithdraw, h]

theorem beginFrame_withDeferral (x : Payload) (s : State) : beginFrame x (s.withDeferral none) = sending x s := rfl

/-- The head of the urgent queue withdrawn (R134). -/
theorem dequeue_head (hq : t.link.urgent = r :: rest) : dequeue r (t.withDeferral none) =
    { t with link := { t.link with urgent := rest, deferral := none } } := by
  have hq : (t.withDeferral none).link.urgent = r :: rest := hq
  rw [dequeue, hq, List.erase_cons_head]
  rfl

/-! ### A publisher's record changed for each point of a list -/

/-- What a fold over points makes of the publisher, each record changed by `g`. -/
structure RecordsSet (l : List Point) (g : Point → PubRecord → PubRecord) (s t : State) : Prop where
  publisher : PublisherStep s t
  list : t.publisher.list = s.publisher.list
  records : ∀ p, t.publisher.records.get p = if p ∈ l then g p (s.publisher.records.get p) else s.publisher.records.get p

theorem RecordsSet.mirror {l : List Point} {g : Point → PubRecord → PubRecord} (h : RecordsSet l g s t) :
    t.mirror = s.mirror := by
  obtain ⟨pub, rfl⟩ := h.publisher
  rfl

theorem RecordsSet.eq {l : List Point} {g : Point → PubRecord → PubRecord} (h : RecordsSet l g s t) :
    t = { s with publisher := t.publisher } := by
  obtain ⟨pub, rfl⟩ := h.publisher
  rfl

theorem foldl_setPub {step : State → Point → State} {g : Point → PubRecord → PubRecord}
    (hg : ∀ p x, g p (g p x) = g p x) (m : Table 64 MirrorEntry)
    (hstep : ∀ t p, t.mirror = m → step t p = t.setPub p (g p (t.publisher.records.get p))) :
    ∀ (l : List Point) (s : State), s.mirror = m → RecordsSet l g s (l.foldl step s)
  | [], s, _ => ⟨⟨_, rfl⟩, rfl, fun p => by simp⟩
  | q :: l, s, hm => by
    have ih := foldl_setPub hg m hstep l (s.setPub q (g q (s.publisher.records.get q))) hm
    rw [List.foldl_cons, hstep s q hm]
    obtain ⟨pub, hpub⟩ := ih.publisher
    refine ⟨⟨pub, hpub⟩, ih.list, fun p => ?_⟩
    have hget : (s.setPub q (g q (s.publisher.records.get q))).publisher.records.get p =
        if p = q then g q (s.publisher.records.get q) else s.publisher.records.get p := Table.get_set ..
    rw [ih.records, hget]
    by_cases hp : p = q
    · subst hp
      simp [hg]
    · simp [hp]

/-- What marking a point carried makes of its record (R95). -/
def carriedRecord (s : State) (p : Point) (x : PubRecord) : PubRecord :=
  { x with carried := true, carriedValue := (s.mirror.get p).value, changed := false }

/-- What a collision makes of a carried point's record (R98). -/
def collidedRecord (x : PubRecord) : PubRecord := { x with carried := false, carriedValue := none, changed := false }

theorem foldl_markCarried (l : List Point) (s : State) : RecordsSet l (carriedRecord s) s (l.foldl markCarried s) :=
  foldl_setPub (step := markCarried) (g := carriedRecord s) (fun _ _ => rfl) s.mirror
    (fun t p ht => congrArg (fun m : Table 64 MirrorEntry => t.setPub p { t.publisher.records.get p with
      carried := true, carriedValue := (m.get p).value, changed := false }) ht) l s rfl

theorem foldl_collidedPoint (l : List Point) (s : State) :
    RecordsSet l (fun _ => collidedRecord) s (l.foldl collidedPoint s) :=
  foldl_setPub (step := collidedPoint) (g := fun _ => collidedRecord) (fun _ _ => rfl) s.mirror (fun _ _ _ => rfl) l s rfl

/-! ### What TRIP wins give (R59, R107) -/

variable {g : Group}

theorem exec_win_sends {x : Payload} (h : Wins s d) (hc : d.linkClass = .urgent) (hq : s.link.urgent = r :: rest)
    (ha : assembleRequest r (s.withDeferral none) = (s.withDeferral none, some x)) : exec .win s = .next (sending x s) := by
  rw [exec_win_urgent h hc hq, ha]
  rfl

theorem exec_win_withdraws (h : Wins s d) (hc : d.linkClass = .urgent) (hq : s.link.urgent = r :: rest)
    (ha : assembleRequest r (s.withDeferral none) = (t.withDeferral none, none)) (ht : t.link.urgent = r :: rest) :
    exec .win s = .next (departure { t with link := { t.link with urgent := rest, deferral := none } }) := by
  rw [exec_win_urgent h hc hq, ha]
  exact congrArg (fun x => Host.Outcome.next (departure x)) (dequeue_head ht)

theorem raise_withDeferral (e : Event) (s : State) : raise e (s.withDeferral none) = (raise e s).withDeferral none := by
  rw [raise_eq, raise_eq]
  rfl

theorem assembleRequest_tripped (s : State) (g : Group) : assembleRequest (.tripped g) s =
    (s, if (s.voter.groups.get g).state = .tripped then some (.trip (BitVec.ofNat 8 g.val) 1) else none) := rfl

theorem assembleRequest_release_not (h : (s.voter.groups.get g).state ≠ .tripped) :
    assembleRequest (.release g) s = (s, none) := if_pos h

theorem assembleRequest_release_satisfied (h : (s.voter.groups.get g).state = .tripped)
    (hs : satisfied (s.groupDesc g) (s.voter.groups.get g) = true) :
    assembleRequest (.release g) s = (raise (.groupReleaseRefused g s.own .satisfied) s, none) :=
  (if_neg (by simp [h])).trans (if_pos hs)

theorem assembleRequest_release_noBasis (h : (s.voter.groups.get g).state = .tripped)
    (hn : noBasis (s.groupDesc g) (s.voter.groups.get g) = true) :
    assembleRequest (.release g) s = (raise (.groupReleaseRefused g s.own .noBasis) s, none) := by
  have hs : ¬ satisfied (s.groupDesc g) (s.voter.groups.get g) = true := fun hs =>
    not_noBasis_of_satisfied hs hn
  exact (if_neg (by simp [h])).trans ((if_neg hs).trans (if_pos hn))

theorem assembleRequest_release_sent (h : (s.voter.groups.get g).state = .tripped)
    (hs : satisfied (s.groupDesc g) (s.voter.groups.get g) = false)
    (hn : noBasis (s.groupDesc g) (s.voter.groups.get g) = false) :
    assembleRequest (.release g) s = (s, some (.trip (BitVec.ofNat 8 g.val) 2)) :=
  (if_neg (by simp [h])).trans ((if_neg (by simp [hs])).trans (if_neg (by simp [hn])))

end

end Sys2Proof.Machine

end

section

namespace Sys2Proof.Proofs

open Sys2Proof.Machine Sys2Proof.Safety

/-- Settles O45: the class by `offers`, the offset by the rotation from its anchor. -/
theorem idleEventDefers : Obligations.IdleEventDefers := by
  intro s
  refine ⟨fun ha hfree => ?_, rfl⟩
  intro l defer turn
  have hexec : exec .idleEvent s = .next (idleEvent s) := rfl
  rw [idleEvent_eq ha hfree] at hexec
  have hdefer (x : Option Deferral) (hx : (if s.control.state = .run
      then (offers s).map (fun c => ({ linkClass := c, offset := offsetOf s c } : Deferral)) else none) = x) : defer x := by
    rw [hx] at hexec
    exact hexec
  refine ⟨fun h => hdefer _ ?_, fun hrun ho => hdefer _ ?_, fun hrun ho n hn => hdefer _ ?_, fun hrun ho n hn => hdefer _ ?_⟩
  · rcases h with h | h
    · exact if_neg h
    · rw [h]; exact ite_self none
  · rw [if_pos hrun, ho]; rfl
  · have hn : n = 16 + rotation s.own s.link.normalAnchor := by
      have := rotation_eq s.own s.link.normalAnchor
      simp only [turn] at hn
      omega
    rw [if_pos hrun, ho, hn]; rfl
  · have hn : n = 32 + rotation s.own s.link.backgroundAnchor := by
      have := rotation_eq s.own s.link.backgroundAnchor
      simp only [turn] at hn
      omega
    rw [if_pos hrun, ho, hn]; rfl

/-- Settles O46: the fold that marks points carried, and the filter of the notices. -/
theorem pointAndPresenceWins : Obligations.PointAndPresenceWins := by
  refine ⟨fun s d hrst hrun hfree hd hc => ?_, fun s d hrst hrun hfree hd hc => ?_⟩
  · have hexec : exec .win s = .next (sendOrWithdraw id (assemblePoint (s.withDeferral none))) := by
      rw [exec_win ⟨hrst, hrun, hfree, hd⟩, hc]; rfl
    refine ⟨fun hl => ?_, fun hl _ => ?_⟩
    · have hl : (s.withDeferral none).publisher.list = [] := hl
      rw [hexec, assemblePoint, hl]; rfl
    · have hne : (s.publisher.list.take 8).isEmpty = false := by simpa using hl
      have hm := foldl_markCarried (s.publisher.list.take 8) (s.withDeferral none)
      have hassemble : assemblePoint (s.withDeferral none) =
          ((s.publisher.list.take 8).foldl markCarried (s.withDeferral none), some (.point ((s.publisher.list.take 8).map
            fun p => pointRecord (s.desc p) p (s.mirror.get p)))) := if_neg (by simp [Config.recordsPerFrame, hl])
      rw [hassemble, sendOrWithdraw_some rfl] at hexec
      refine ⟨_, hexec, ?_, hm.list, fun p hp => (hm.records p).trans (if_pos hp), fun p hp => (hm.records p).trans (if_neg hp)⟩
      show beginFrame _ ((s.publisher.list.take 8).foldl markCarried (s.withDeferral none)) = _
      rw [hm.eq]
      rfl
  · intro stands ns
    have hstands : noticeStands s.mirror = stands := by
      funext n
      simp only [noticeStands, stands, Bool.not_or, BitVec.lt_def]
    have hexec : exec .win s = .next (sendOrWithdraw id (assemblePresence (s.withDeferral none))) := by
      rw [exec_win ⟨hrst, hrun, hfree, hd⟩, hc]; rfl
    have hprune : pruneNotices (s.withDeferral none) = (s.withNotices ns).withDeferral none := by
      unfold pruneNotices
      exact congrArg (fun l => (s.withDeferral none).withNotices l) (congrArg (fun f => s.custody.notices.filter f) hstands)
    rw [hexec, assemblePresence, hprune]
    rfl

/-- Settles O47: each outcome of the two assemblies, sent or withdrawn. -/
theorem tripWinAssembles : Obligations.TripWinAssembles := by
  intro s d g rest hrst hrun hfree hd hc r withdrawn
  have hw : Wins s d := ⟨hrst, hrun, hfree, hd⟩
  refine ⟨fun hq => ⟨fun ht => ?_, fun ht => ?_⟩, fun hq => ⟨fun ht => ?_, fun ht => ⟨fun hs => ?_, fun hn => ?_, fun hs hn => ?_⟩⟩⟩
  · refine exec_win_sends hw hc hq ((assembleRequest_tripped _ g).trans ?_)
    rw [if_pos (by exact ht)]
  · refine exec_win_withdraws hw hc hq ((assembleRequest_tripped _ g).trans ?_) hq
    rw [if_neg (by exact ht)]
  · exact exec_win_withdraws hw hc hq (assembleRequest_release_not (s := s.withDeferral none) ht) hq
  · refine exec_win_withdraws hw hc hq ((assembleRequest_release_satisfied (s := s.withDeferral none) ht hs).trans ?_)
      (by rw [raise_link]; exact hq)
    rw [raise_withDeferral]; rfl
  · refine exec_win_withdraws hw hc hq ((assembleRequest_release_noBasis (s := s.withDeferral none) ht hn).trans ?_)
      (by rw [raise_link]; exact hq)
    rw [raise_withDeferral]; rfl
  · exact exec_win_sends hw hc hq (assembleRequest_release_sent (s := s.withDeferral none) ht hs hn)

end Sys2Proof.Proofs

end

/-! Departures, completions, collisions and isolation. -/

section

namespace Sys2Proof.Machine

open Sys2Proof.Safety

/-! ### Departures (R75, R134) -/

/-- One offer of the Custody Controller's round, until the first refusal (R75). -/
def offerKind (acc : State × Bool) (r : Request) : State × Bool :=
  if acc.2 then acc else match offerTo acc.1.link.urgent r with
    | some q => (acc.1.withUrgent q, false)
    | none => (acc.1, true)

/-- One offer of the Group Voter's round, until the first refusal (R60). -/
def offerOwed (acc : State × Bool) (g : Group) : State × Bool :=
  let r := acc.1.voter.groups.get g
  if acc.2 || !r.announceOwed then acc
  else if r.state = .tripped then
    match offerTo acc.1.link.urgent (.tripped g) with
    | some q => ((acc.1.setGroup g { r with announceOwed := false }).withUrgent q, false)
    | none => (acc.1, true)
  else (acc.1.setGroup g { r with announceOwed := false }, false)

/-- Some entry has the mark. -/
def markedBy (s : State) (f : CustodyEntry → Bool) : Bool := s.custody.table.cells.any (fun o => o.any f)

/-- The kinds that some entry marks, in the order of R75. -/
def wantedKinds (s : State) : List Request :=
  (if markedBy s CustodyEntry.claimDue then [Request.claim] else []) ++
    ((if markedBy s CustodyEntry.reclaimDue then [Request.reclaim] else []) ++
     (if markedBy s CustodyEntry.yieldDue then [Request.yield] else []))

theorem reofferCustody_eq (s : State) : reofferCustody s = ((wantedKinds s).foldl offerKind (s, false)).1 := rfl

theorem reofferTripped_eq (s : State) : reofferTripped s = ((List.finRange 16).foldl offerOwed (s, false)).1 := rfl

section

variable {s t : State} {r : Request} {g : Group} {f : CustodyEntry → Bool}

theorem markedBy_iff : markedBy s f = true ↔ ∃ i c, s.custody.table.get i = some c ∧ f c = true := by
  simp only [markedBy, List.any_eq_true, Table.mem_cells, Option.any_eq_true]
  constructor
  · rintro ⟨_, ⟨i, rfl⟩, c, hc, hf⟩
    exact ⟨i, c, hc, hf⟩
  · rintro ⟨i, c, hc, hf⟩
    exact ⟨_, ⟨i, rfl⟩, c, hc, hf⟩

theorem withUrgent_self (s : State) : s.withUrgent s.link.urgent = s := rfl

theorem offerTo_of_no_room (h : 8 ≤ s.link.urgent.length) (r : Request) :
    offerTo s.link.urgent r = some s.link.urgent ∨ offerTo s.link.urgent r = none := by
  by_cases hr : r ∈ s.link.urgent
  · exact .inl (offerTo_of_mem hr)
  · exact .inr (offerTo_of_full hr h)

/-- A full queue takes nothing more. -/
theorem foldl_offerKind_full (h : 8 ≤ s.link.urgent.length) : ∀ (l : List Request) (b : Bool),
    (l.foldl offerKind (s, b)).1 = s
  | [], _ => rfl
  | r :: l, true => foldl_offerKind_full h l true
  | r :: l, false => by
    rw [List.foldl_cons, offerKind, if_neg (by simp)]
    rcases offerTo_of_no_room h r with ho | ho <;> dsimp only <;> rw [ho]
    · exact foldl_offerKind_full h l false
    · exact foldl_offerKind_full h l true

theorem reofferCustody_full (h : 8 ≤ s.link.urgent.length) : reofferCustody s = s := foldl_offerKind_full h _ _

/-- The first kind wanted takes the last place. -/
theorem reofferCustody_takes {l : List Request} (hw : wantedKinds s = r :: l) (hr : r ∉ s.link.urgent)
    (hlen : s.link.urgent.length = 7) : reofferCustody s = s.withUrgent (s.link.urgent ++ [r]) := by
  have hstep : offerKind (s, false) r = (s.withUrgent (s.link.urgent ++ [r]), false) := by
    rw [offerKind, if_neg (by simp)]
    dsimp only
    rw [offerTo_of_room hr (by omega)]
  rw [reofferCustody_eq, hw, List.foldl_cons, hstep]
  exact foldl_offerKind_full (by simp [State.withUrgent, hlen]) _ _

theorem reofferCustody_of_nothing (hw : wantedKinds s = []) : reofferCustody s = s := by rw [reofferCustody_eq, hw]; rfl

theorem reofferCustody_frame (s : State) : ∃ q, reofferCustody s = s.withUrgent q := by
  have h : ∀ (l : List Request) (x : State × Bool), ∃ q, (l.foldl offerKind x).1 = x.1.withUrgent q := fun l x =>
    foldl_rel (R := fun (x y : State × Bool) => ∃ q, y.1 = x.1.withUrgent q) (fun x => ⟨_, (withUrgent_self x.1).symm⟩)
      (fun ⟨_, h⟩ ⟨q, k⟩ => ⟨q, by rw [k, h]; rfl⟩)
      (fun x r => by
        unfold offerKind
        split
        · exact ⟨_, (withUrgent_self x.1).symm⟩
        · split
          · exact ⟨_, rfl⟩
          · exact ⟨_, (withUrgent_self x.1).symm⟩) l x
  rw [reofferCustody_eq]
  exact h _ _

theorem offerOwed_of_not_owed {b : Bool} (h : (s.voter.groups.get g).announceOwed = false) : offerOwed (s, b) g = (s, b) :=
  if_pos (by simp [h])

theorem foldl_offerOwed_none {b : Bool} : ∀ {l : List Group}, (∀ g ∈ l, (s.voter.groups.get g).announceOwed = false) →
    l.foldl offerOwed (s, b) = (s, b)
  | [], _ => rfl
  | g :: l, h => by
    rw [List.foldl_cons, offerOwed_of_not_owed (h g (by simp))]
    exact foldl_offerOwed_none fun k hk => h k (by simp [hk])

/-- A full queue refuses every announcement still owed. -/
theorem foldl_offerOwed_full (hlen : 8 ≤ s.link.urgent.length) : ∀ {l : List Group} (b : Bool),
    (∀ g ∈ l, (s.voter.groups.get g).announceOwed = true →
      (s.voter.groups.get g).state = .tripped ∧ Request.tripped g ∉ s.link.urgent) →
    (l.foldl offerOwed (s, b)).1 = s
  | [], _, _ => rfl
  | g :: l, b, h => by
    have ih (b : Bool) : (l.foldl offerOwed (s, b)).1 = s := foldl_offerOwed_full hlen b fun k hk => h k (by simp [hk])
    rw [List.foldl_cons]
    cases b with
    | true => exact ih true
    | false =>
      cases ho : (s.voter.groups.get g).announceOwed with
      | false => rw [offerOwed_of_not_owed ho]; exact ih false
      | true =>
        obtain ⟨hstate, hnot⟩ := h g (by simp) ho
        have hstep : offerOwed (s, false) g = (s, true) := by
          refine (if_neg (by simp [ho])).trans ((if_pos hstate).trans ?_)
          dsimp only
          rw [offerTo_of_full hnot hlen]
        rw [hstep]
        exact ih true

/-- The first owed group takes the last place (R60). -/
theorem reofferTripped_takes (hlen : s.link.urgent.length = 7) (hg : (s.voter.groups.get g).announceOwed = true)
    (hfirst : ∀ h, h < g → (s.voter.groups.get h).announceOwed = false)
    (htripped : ∀ h, (s.voter.groups.get h).announceOwed = true →
      (s.voter.groups.get h).state = .tripped ∧ Request.tripped h ∉ s.link.urgent) :
    reofferTripped s = (s.setGroup g { s.voter.groups.get g with announceOwed := false }).withUrgent
      (s.link.urgent ++ [.tripped g]) := by
  obtain ⟨before, after, hl⟩ := List.append_of_mem (List.mem_finRange g)
  have hsorted := List.pairwise_lt_finRange 16
  rw [hl, List.pairwise_append, List.pairwise_cons] at hsorted
  obtain ⟨-, ⟨hafter, -⟩, hbefore⟩ := hsorted
  obtain ⟨hstate, hnot⟩ := htripped g hg
  have hstep : offerOwed (s, false) g =
      ((s.setGroup g { s.voter.groups.get g with announceOwed := false }).withUrgent (s.link.urgent ++ [.tripped g]), false) := by
    refine (if_neg (by simp [hg])).trans ((if_pos hstate).trans ?_)
    dsimp only
    rw [offerTo_of_room hnot (by omega)]
  rw [reofferTripped_eq, hl, List.foldl_append,
    foldl_offerOwed_none fun h hh => hfirst h (hbefore h hh g (by simp)), List.foldl_cons, hstep]
  refine foldl_offerOwed_full (by simp [State.withUrgent, hlen]) false fun h hh ho => ?_
  have hne : h ≠ g := (hafter h hh).ne'
  have hget : ((s.setGroup g { s.voter.groups.get g with announceOwed := false }).withUrgent
      (s.link.urgent ++ [.tripped g])).voter.groups.get h = s.voter.groups.get h := Table.get_set_ne _ _ hne
  rw [hget] at ho ⊢
  obtain ⟨hstate, hnot⟩ := htripped h ho
  exact ⟨hstate, by simpa [State.withUrgent] using ⟨hnot, hne⟩⟩

theorem reofferTripped_of_nothing (h : ∀ g, (s.voter.groups.get g).announceOwed = false) : reofferTripped s = s := by
  rw [reofferTripped_eq, foldl_offerOwed_none fun g _ => h g]

/-! ### The end of custody frames (R81 to R83) -/

theorem mapCustody_foldl {f : CustodyEntry → CustodyEntry} (hp : ∀ c, (f c).point = c.point) (hf : ∀ c, f (f c) = f c)
    {step : State → Point → State} (hstep : ∀ t p, t.control = s.control → t.mirror = s.mirror → step t p = t.mapCustody p f) :
    ∀ (l : List Point) (t : State), t.control = s.control → t.mirror = s.mirror →
      l.foldl step t = t.withTable (t.custody.table.map (fun o => o.map (fun c => if c.point ∈ l then f c else c)))
  | [], t, _, _ => by
    have hid : t.custody.table.map (fun o => o.map (fun c => if c.point ∈ [] then f c else c)) = t.custody.table :=
      Table.ext_get fun i => by simp [Table.get_map]
    rw [hid]
    rfl
  | p :: l, t, hc, hm => by
    rw [List.foldl_cons, hstep t p hc hm, mapCustody_foldl hp hf hstep l (t.mapCustody p f) hc hm]
    refine congrArg t.withTable (Table.ext_get fun i => ?_)
    have hget : (t.mapCustody p f).custody.table.get i = (t.custody.table.get i).map (fun c => if c.point = p then f c else c) :=
      Table.get_map ..
    rw [Table.get_map, hget, Table.get_map, Option.map_map]
    refine congrArg (fun g => (t.custody.table.get i).map g) (funext fun c => ?_)
    by_cases hcp : c.point = p
    · simp [hcp, hp, hf]
    · simp [hcp]

/-- The entry of a carried point at the completion of a RECLAIM (R82, R85). -/
def reclaimedEntry (s : State) (c : CustodyEntry) : CustodyEntry :=
  { c with
    reclaimDue := false
    reclaimWait := if c.role == .home && s.otherOwns c then Timer.start (reclaimWaitTime s.control.image) else c.reclaimWait }

theorem foldl_claimCompleted (l : List Point) (s : State) : l.foldl claimCompleted s = s.withTable
    (s.custody.table.map (fun o => o.map (fun c => if c.point ∈ l then { c with claimDue := false } else c))) :=
  mapCustody_foldl (s := s) (f := fun c => { c with claimDue := false }) (fun _ => rfl) (fun _ => rfl) (fun _ _ _ _ => rfl)
    l s rfl rfl

theorem foldl_yieldCompleted (l : List Point) (s : State) : l.foldl yieldCompleted s = s.withTable
    (s.custody.table.map (fun o => o.map (fun c => if c.point ∈ l then { c with yieldDue := false } else c))) :=
  mapCustody_foldl (s := s) (f := fun c => { c with yieldDue := false }) (fun _ => rfl) (fun _ => rfl) (fun _ _ _ _ => rfl)
    l s rfl rfl

theorem otherOwns_congr (hc : t.control = s.control) (hm : t.mirror = s.mirror) : t.otherOwns = s.otherOwns := by
  funext c
  simp only [State.otherOwns, State.desc, hc, hm]

theorem reclaimedEntry_idem (s : State) (c : CustodyEntry) : reclaimedEntry s (reclaimedEntry s c) = reclaimedEntry s c := by
  have howns : s.otherOwns (reclaimedEntry s c) = s.otherOwns c := rfl
  have hrole : (reclaimedEntry s c).role = c.role := rfl
  rw [reclaimedEntry, howns, hrole]
  by_cases h : (c.role == .home && s.otherOwns c) = true
  · simp only [h, if_true, reclaimedEntry]
  · simp only [h, reclaimedEntry]
    rfl

theorem foldl_reclaimCompleted (l : List Point) (s : State) : l.foldl reclaimCompleted s = s.withTable
    (s.custody.table.map (fun o => o.map (fun c => if c.point ∈ l then reclaimedEntry s c else c))) :=
  mapCustody_foldl (s := s) (f := reclaimedEntry s) (fun _ => rfl) (reclaimedEntry_idem s)
    (fun t p hc hm => by
      unfold reclaimCompleted reclaimedEntry
      rw [otherOwns_congr hc hm, hc]) l s rfl rfl

theorem reclaimedEntry_eq {c : CustodyEntry} (hc : t.control = s.control) (hm : t.mirror = s.mirror) :
    reclaimedEntry t c = { c with
      reclaimDue := false
      reclaimWait := if c.role = .home ∧ otherOwner s c (s.desc c.point).standbyStation = true then
          .running (2 * (imageByte s.control.image 32).toNat)
        else c.reclaimWait } := by
  have howner : c.role = .home → s.otherOwns c = otherOwner s c (s.desc c.point).standbyStation := fun hr => by
    unfold State.otherOwns otherOwner
    rw [hr, otherStation]
    cases (s.desc c.point).standbyStation <;> rfl
  have hguard : (c.role == .home && s.otherOwns c) = true ↔
      c.role = .home ∧ otherOwner s c (s.desc c.point).standbyStation = true := by
    rw [Bool.and_eq_true, beq_iff_eq]
    exact and_congr_right fun hr => by rw [howner hr]
  rw [reclaimedEntry, otherOwns_congr hc hm, hc]
  simp only [hguard]
  rfl

theorem mem_recordPoints {p : Point} {rs : List Record} :
    p ∈ recordPoints rs ↔ rs.any (fun r => pointOfByte r.point == some p) = true := by
  simp [recordPoints]

theorem mem_custodyPoints {p : Point} {rs : List CustodyRecord} :
    p ∈ custodyPoints rs ↔ rs.any (fun r => pointOfByte r.record.point == some p) = true := by
  simp [custodyPoints]

theorem mem_filterMap_pointOfByte {p : Point} {bs : List Byte} :
    p ∈ bs.filterMap pointOfByte ↔ bs.any (fun b => pointOfByte b == some p) = true := by
  simp

/-! ### The end of POINT frames (R97) -/

/-- A carried point at the completion of its frame, in the terms of the statement (R97). -/
theorem publishedPoint_eq {p : Point} (hc : t.control = s.control) : publishedPoint t p =
    (let x := t.publisher.records.get p
    if x.carried then { t with
      publisher := { t.publisher with
        list := if x.changed then t.publisher.list else t.publisher.list.filter (· != p)
        records := t.publisher.records.set p
          { lastPublished := x.carriedValue, refresh := .running (max 1 ((s.desc p).freshness / 2)),
            carried := false, carriedValue := none, changed := false } } }
    else t) := by
  have hd : t.desc p = s.desc p := by rw [State.desc, hc]; rfl
  unfold publishedPoint
  rw [hd]
  dsimp only
  cases (t.publisher.records.get p).changed <;> rfl

theorem publishedPoint_control (t : State) (p : Point) : (publishedPoint t p).control = t.control :=
  (publishedPoint_takeStep t p).control

/-- Two folds of steps that agree while the control stays, agree. -/
theorem foldl_published {α : Type} {u : State} {step step' : State → α → State}
    (h : ∀ t a, t.control = u.control → step t a = step' t a ∧ (step t a).control = u.control) :
    ∀ (l : List α) (t : State), t.control = u.control → l.foldl step t = l.foldl step' t
  | [], _, _ => rfl
  | a :: l, t, ht => by
    obtain ⟨heq, hc⟩ := h t a ht
    rw [List.foldl_cons, List.foldl_cons, ← heq]
    exact foldl_published h l _ hc

theorem completeFrame_of_completes {f : Frame} (h : Completes s f) :
    completeFrame s = completeRequest f.payload (completeOwner f.payload (completed f s)) := by
  rcases h with h | ⟨h, hc⟩
  · rw [completeFrame, h]
    unfold reportCompletion completed
    rw [if_neg (by simp [h])]
  · rw [completeFrame, h]
    dsimp only
    rw [hc]
    unfold reportCompletion completed
    rw [if_pos h]

end

end Sys2Proof.Machine

end

section

namespace Sys2Proof.Proofs

open Sys2Proof.Machine Sys2Proof.Safety

/-- Settles O49: the two rounds of offers, with the place gone after the first that is taken. -/
theorem departureSharesThePlace : Obligations.DepartureSharesThePlace := by
  intro s hlen _ owed marked took
  have hmarked (f : CustodyEntry → Bool) : markedBy s f = true ↔ marked f := markedBy_iff
  refine ⟨fun g hg hfirst htripped => ?_, fun hnone => ?_⟩
  · have ht := reofferTripped_takes hlen hg hfirst htripped
    have hd : departure s = (s.setGroup g { s.voter.groups.get g with announceOwed := false }).withUrgent
        (s.link.urgent ++ [.tripped g]) := by
      rw [departure, ht]
      exact reofferCustody_full (by simp [State.withUrgent, hlen])
    rw [hd]
    exact ⟨rfl, rfl, rfl⟩
  · have hd : departure s = reofferCustody s := by rw [departure, reofferTripped_of_nothing hnone]
    obtain ⟨q, hq⟩ := reofferCustody_frame s
    have htakes {r : Request} (hw : ∃ l, wantedKinds s = r :: l) (hr : r ∉ s.link.urgent) : took r (departure s) := by
      obtain ⟨l, hw⟩ := hw
      rw [hd, reofferCustody_takes hw hr hlen]
      rfl
    have hunmarked {f : CustodyEntry → Bool} (h : ¬ marked f) : markedBy s f = false := by
      simpa using mt (hmarked f).mp h
    refine ⟨by rw [hd, hq]; rfl, by rw [hd, hq]; rfl, fun hc hr => htakes ?_ hr, fun hc hm hr => htakes ?_ hr,
      fun hc hm hy hr => htakes ?_ hr, fun hc hm hy => ?_⟩
    · rw [wantedKinds, (hmarked _).mpr hc]; exact ⟨_, rfl⟩
    · rw [wantedKinds, hunmarked hc, (hmarked _).mpr hm]; exact ⟨_, rfl⟩
    · rw [wantedKinds, hunmarked hc, hunmarked hm, (hmarked _).mpr hy]; exact ⟨_, rfl⟩
    · rw [hd]
      exact reofferCustody_of_nothing (by rw [wantedKinds, hunmarked hc, hunmarked hm, hunmarked hy]; rfl)

/-- Settles O50: the end of the frame at its owner for each payload, then the departure of an urgent request. -/
theorem completionEndsTheFrame : Obligations.CompletionEndsTheFrame := by
  intro s f hf u leaves
  have hexec : exec .completion s = .next (completeRequest f.payload (completeOwner f.payload u)) :=
    congrArg Host.Outcome.next (completeFrame_of_completes hf)
  have hcontrol : u.control = s.control := by simp only [u, completed]
  have hmirror : u.mirror = s.mirror := by simp only [u, completed]
  have htable : u.custody.table = s.custody.table := by simp only [u, completed]
  have hleaves {r : Request} {t : State} (hr : requestOf f.payload = some r) (ht : completeOwner f.payload u = t) :
      exec .completion s = leaves r t := by
    rw [hexec, ht, completeRequest, hr]
    rfl
  refine ⟨fun d ps ns hp => ?_, fun rs hp => ?_, fun b g hb => ⟨fun hp => hleaves ?_ ?_, fun hp => hleaves ?_ ?_⟩,
    fun rs hp => ?_, fun rs hp => ?_, fun ps hp => ?_⟩
  · rw [hexec, hp]; rfl
  · have hc : completeOwner f.payload u = completePoint rs u := by rw [hp]; rfl
    have hq (t : State) : completeRequest f.payload t = t := by rw [hp]; rfl
    rw [hexec, hq, hc, completePoint, recordPoints, List.foldl_filterMap]
    refine congrArg Host.Outcome.next (foldl_published (u := u) (fun t r ht => ?_) rs u rfl)
    cases pointOfByte r.point with
    | none => exact ⟨rfl, ht⟩
    | some p => exact ⟨publishedPoint_eq (ht.trans hcontrol), (publishedPoint_control t p).trans ht⟩
  · rw [hp]; simp [requestOf, hb]
  · rw [hp]; rfl
  · rw [hp]; simp [requestOf, hb]
  · rw [hp]; rfl
  · refine ⟨_, hleaves (by rw [hp]; rfl) ((congrArg (fun x => completeOwner x u) hp).trans (foldl_claimCompleted _ u)), rfl, fun i => ?_⟩
    exact (Table.get_map ..).trans (by simp only [htable, mem_custodyPoints])
  · refine ⟨_, hleaves (by rw [hp]; rfl) ((congrArg (fun x => completeOwner x u) hp).trans (foldl_yieldCompleted _ u)), rfl, fun i => ?_⟩
    exact (Table.get_map ..).trans (by simp only [htable, mem_custodyPoints])
  · refine ⟨_, hleaves (by rw [hp]; rfl) ((congrArg (fun x => completeOwner x u) hp).trans (foldl_reclaimCompleted _ u)), rfl, fun i => ?_⟩
    exact (Table.get_map ..).trans (by simp only [htable, mem_filterMap_pointOfByte, reclaimedEntry_eq hcontrol hmirror])

/-- Settles O51: the collision at the frame's owner, and the ends of a jam and of the hold. -/
theorem collisionAndIsolation : Obligations.CollisionAndIsolation := by
  refine ⟨fun s f hf => ?_, fun s ht => ?_, fun s hrst hstate hdue => ?_⟩
  · intro u
    have hexec : exec .collision s = .next (collideOwner f.payload u) := by
      show Host.Outcome.next (collideFrame s) = _
      rw [collideFrame, hf]
      rfl
    refine ⟨fun hp => ?_, fun rs hp => ?_⟩
    · rw [hexec]
      cases hpay : f.payload with
      | point rs => exact absurd hpay (hp rs)
      | _ => rfl
    · rw [hexec, hp]
      have hm := foldl_collidedPoint (recordPoints rs) u
      refine ⟨_, rfl, ?_, fun p => ?_⟩
      · show (recordPoints rs).foldl collidedPoint u = _
        rw [hm.eq, show ((recordPoints rs).foldl collidedPoint u).publisher =
          { s.publisher with records := ((recordPoints rs).foldl collidedPoint u).publisher.records } from
            congrArg (fun l => { ((recordPoints rs).foldl collidedPoint u).publisher with list := l }) hm.list]
        rfl
      · refine (hm.records p).trans ?_
        simp only [mem_recordPoints]
        rfl
  · intro l
    refine ⟨fun h => ?_, fun hjam hrun hfail => ?_⟩
    · show Host.Outcome.next (endJam s) = _
      rcases ht with ht | ht
      · rw [endJam, ht]
        refine congrArg _ ((if_neg ?_).trans ?_)
        · rintro ⟨hrun, hfail⟩
          rcases h with h | h | h
          · rw [ht] at h; cases h
          · exact h hrun
          · exact h hfail
        · simp [l, ht, markJammed, releaseLine]
      · rw [endJam, ht]
        simp [l, ht, releaseLine]
    · show Host.Outcome.next (endJam s) = _
      rw [endJam, hjam]
      refine congrArg _ ((if_pos ⟨hrun, hfail⟩).trans ?_)
      simp only [l, hjam, isolate, raise_eq]
      simp only [markJammed, releaseLine, beq_self_eq_true, Bool.or_true]
      rfl
  · show Host.Outcome.next (isolationExpired s) = _
    refine congrArg _ ((if_pos (by simp [hrst, hstate, hdue, Timer.due])).trans ?_)
    simp only [raise_eq]
    rfl

end Sys2Proof.Proofs

end

/-! The image through the management port, and what the read commands return. -/

section

namespace Sys2Proof.Machine

open Sys2Proof.Safety

/-! ### The image (R147, R170) -/

theorem imageRange_eq_true {off : Half} {n : Nat} (hn : n ≠ 0) (h : off.toNat + n ≤ 1344) : imageRange off n = true := by
  simp [imageRange, hn, Config.imageBytes, h]

theorem imageRange_eq_false {off : Half} {n : Nat} (h : n = 0 ∨ 1344 < off.toNat + n) : imageRange off n = false := by
  rcases h with h | h
  · simp [imageRange, h]
  · have hnot : ¬ off.toNat + n ≤ 1344 := by omega
    simp [imageRange, Config.imageBytes, hnot]

theorem readAll_eq_map (m : List Host.Cell) : ∀ n k, Memory.readAll m k n = (List.range n).map (fun j => Memory.read m (k + j))
  | 0, _ => rfl
  | n + 1, k => by
    rw [Memory.readAll, readAll_eq_map m n (k + 1), List.range_succ_eq_map, List.map_cons, List.map_map]
    refine congrArg₂ List.cons rfl (List.map_congr_left fun j _ => ?_)
    rw [Function.comp_apply, Nat.succ_eq_add_one]
    congr 1
    omega

section

variable {s : State} {b : Byte}

theorem writeImage_of_validating (h : s.control.state = .validating) (off : Half) (data : List Byte) :
    writeImage off data s = s.answer statusBusy := by rw [writeImage, h]

theorem writeImage_of_runtime (h : s.control.state.runtime = true) (off : Half) (data : List Byte) :
    writeImage off data s = s.answer statusBadState := by
  unfold writeImage
  cases hs : s.control.state <;> simp [hs, StationState.runtime] at h ⊢

theorem writeImage_of_config (h : s.control.state = .config) (off : Half) (data : List Byte) :
    writeImage off data s = if imageRange off data.length then
      { s with control := { s.control with
        image := Memory.writeAll s.control.image off.toNat data, imagePresent := true } }.answer (statusOk [])
      else s.answer statusBadArgument := by rw [writeImage, h]

/-! ### Items of one byte (R178) -/

theorem flag_zero (b : Bool) : flag b 0 = if b then 1 else 0 := by cases b <;> rfl

theorem flag_one (b : Bool) : flag b 1 = if b then 2 else 0 := by cases b <;> rfl

theorem flag_two (b : Bool) : flag b 2 = if b then 4 else 0 := by cases b <;> rfl

theorem stationOfByte_eq_some {a : Station} (h : b.toNat = a.val) : stationOfByte b = some a := by
  rw [stationOfByte, dif_pos (h ▸ a.isLt)]
  exact congrArg some (Fin.ext h)

theorem stationOfByte_eq_none (h : 16 ≤ b.toNat) : stationOfByte b = none := dif_neg (by omega)

/-- The role that READ-POINT reports: that of the first context bound to the point, or none (R23). -/
theorem roleOf_of_unbound {p : Point} (h : ∀ i, (s.contexts.get i).point ≠ some p) : s.roleOf p = .idle := by
  have hnone : s.boundInput p = none := find?_finRange_eq_none fun i => by simpa using h i
  rw [State.roleOf, State.boundContext, hnone]
  rfl

theorem roleOf_of_bound {p : Point} {i : Input} (hi : (s.contexts.get i).point = some p)
    (hfirst : ∀ j, j < i → (s.contexts.get j).point ≠ some p) : s.roleOf p = (s.contexts.get i).role := by
  have hsome : s.boundInput p = some i := find?_finRange_eq_some (by simpa using hi) fun j hj => by simpa using hfirst j hj
  rw [State.roleOf, State.boundContext, hsome]
  rfl

end

end Sys2Proof.Machine

end

section

namespace Sys2Proof.Proofs

open Sys2Proof.Machine Sys2Proof.Safety

/-- Settles O52: the answers by state and range, and a written image byte by byte. -/
theorem imageAndPartialCommands : Obligations.ImageAndPartialCommands := by
  intro s hready hwf
  have hexec (f : State → State) {t : State} (h : f s = t) :
      (Host.Outcome.next (hostCommand f s) : Host.Outcome State Fault Refusal) = .next t := by
    rw [hostCommand_of_ready hready, h]
  refine ⟨fun off data => ⟨fun hs => ?_, fun hs => ?_, fun hs hr => ?_, fun hs hne hle => ?_⟩,
    fun off n => ⟨fun hr => ?_, fun hne hle => ?_⟩, fun b hb => ?_, hexec _ rfl⟩
  · exact hexec _ (writeImage_of_validating hs off data)
  · exact hexec _ (writeImage_of_runtime hs off data)
  · have hr : imageRange off data.length = false := imageRange_eq_false (hr.imp_left fun h => by rw [h]; rfl)
    exact hexec _ ((writeImage_of_config hs off data).trans (if_neg (by simp [hr])))
  · have hr : imageRange off data.length = true := imageRange_eq_true (by simpa using hne) hle
    refine ⟨_, hexec _ ((writeImage_of_config hs off data).trans (if_pos hr)), fun a => ?_⟩
    rw [Memory.read_writeAll data a hwf hle]
    split
    next h => exact (List.getD_eq_getElem _ _ (by omega)).symm
    next h => rfl
  · have hr : imageRange off n.toNat = false := imageRange_eq_false (hr.imp_left fun h => by rw [h]; rfl)
    exact hexec _ (if_neg (by simp [hr]))
  · have hne : n.toNat ≠ 0 := fun h => hne (BitVec.eq_of_toNat_eq h)
    refine hexec _ ((if_pos (imageRange_eq_true hne hle)).trans ?_)
    rw [readAll_eq_map]
    rfl
  · exact hexec _ (if_neg (by simpa [namesCommand, commandBytes] using hb))

/-- Settles O53: the tables of codes, and the data of each read command item by item. -/
theorem readCommands : Obligations.ReadCommands := by
  refine ⟨⟨rfl, fun p g i => ⟨rfl, ?_⟩, rfl, rfl, rfl, rfl, fun a => rfl, rfl⟩, fun s hready => ?_⟩
  · have hp (p : Point) : (0x80#8 ||| BitVec.ofNat 8 p.val).toNat = 128 + p.val := by revert p; decide
    have hsubject : (startErrorSubject (.badInputPoint p)).toNat = 128 + p.val := hp p
    simp only [List.map_cons, List.map_nil, hsubject]
    simp only [startErrorSubject, BitVec.toNat_ofNat, Nat.mod_eq_of_lt (show p.val < 2 ^ 8 by omega),
      Nat.mod_eq_of_lt (show g.val < 2 ^ 8 by omega), Nat.mod_eq_of_lt (show i.val < 2 ^ 8 by omega)]
    rfl
  have hexec (f : State → State) {t : State} (h : f s = t) :
      (Host.Outcome.next (hostCommand f s) : Host.Outcome State Fault Refusal) = .next t := by
    rw [hostCommand_of_ready hready, h]
  intro b h station
  have hstation (a : Option Station) : stationByte a = station a := by cases a <;> rfl
  refine ⟨hexec _ ?_, fun hs x => ⟨?_, ?_, ?_⟩, fun hs x => ⟨fun hx => ?_, fun hx => ⟨?_, ?_⟩, fun p hx => ?_, fun g hx => ?_,
    fun a hx => ?_⟩⟩
  · simp only [readStatus, statusData, flagItem, flag_zero]
    rfl
  · exact hexec _ (inRuntime_of_not_runtime hs _ _)
  · exact hexec _ (inRuntime_of_not_runtime hs _ _)
  · exact hexec _ (inRuntime_of_not_runtime hs _ _)
  · refine hexec _ ?_
    rw [readPoint, pointOfByte_eq_none_iff.mpr hx]
    exact inRuntime_none hs _
  · refine hexec _ ?_
    rw [readGroup, groupOfByte_eq_none_iff.mpr hx]
    exact inRuntime_none hs _
  · refine hexec _ ?_
    rw [readRoster, stationOfByte_eq_none hx]
    exact inRuntime_none hs _
  · intro e role k hk
    have hrole : roleByte (s.roleOf p) = k := by
      rcases hk with ⟨rfl, hu⟩ | ⟨i, hi, hfirst, rfl⟩
      · rw [roleOf_of_unbound hu]; rfl
      · rw [roleOf_of_bound hi hfirst]
    refine hexec _ ?_
    rw [readPoint, pointOfByte_eq_some_iff.mpr hx, inRuntime_some hs, pointData, hrole]
    simp only [latchByte, flag_zero, flag_one, flag_two, hstation]
    rfl
  · intro d r n
    refine hexec _ ?_
    rw [readGroup, groupOfByte_eq_some_iff.mpr hx, inRuntime_some hs, groupData]
    simp only [flag_zero, flag_one, flag_two, hstation, Bool.and_eq_true, satisfied_iff, noBasis_iff]
    have hrequired : (BitVec.ofNat 8 (if d.used then required d r else 0)) = if d.used then b (min d.k n) else 0 := by
      cases d.used <;> rfl
    rw [show BitVec.ofNat 8 (if (s.groupDesc g).used = true then required (s.groupDesc g) (s.voter.groups.get g) else 0) =
      if d.used then b (min d.k n) else 0 from hrequired]
    rfl
  · intro r
    refine hexec _ ?_
    rw [readRoster, stationOfByte_eq_some hx, inRuntime_some hs, rosterData]
    simp only [flagItem, flag_zero]
    rfl

end Sys2Proof.Proofs

end

/-! The assembly of CLAIM, RECLAIM and YIELD frames. -/

section

namespace Sys2Proof.Machine

open Sys2Proof.Safety

/-! ### What an assembly reads and changes (R81 to R83) -/

/-- The state with another custody table, another event queue and other link fields: all that an assembly reads elsewhere is as
it was. -/
def amended (s : State) (x : Table 8 (Option CustodyEntry)) (q : EventQueue) (l : Link) : State :=
  { s with custody := { s.custody with table := x }, events := q, link := l }

/-- Each point has at most one custody entry (R74). -/
def UniquePoints (s : State) : Prop :=
  ∀ i j c x, s.custody.table.get i = some c → s.custody.table.get j = some x → c.point = x.point → i = j

section

variable {α : Type} {k : Assembly} {rec : State → Input → CustodyEntry → α} {f : State × List α → Point → State × List α}
  {s t : State} {p : Point} {i : Input} {c : CustodyEntry}

/-- The assembly carries the entry. -/
def carriesEntry (k : Assembly) (s : State) (i : Input) (c : CustodyEntry) : Bool :=
  k.marked c && k.test s i c && (s.mirror.get c.point).epoch != 65535#16

/-- The assembly newly reports the entry at its last epoch. -/
def reportsEntry (k : Assembly) (s : State) (i : Input) (c : CustodyEntry) : Bool :=
  k.marked c && k.test s i c && (s.mirror.get c.point).epoch == 65535#16 && !c.limitReported

/-- The input whose entry of point `p` the assembly carries. -/
def carriedAt (k : Assembly) (s : State) (p : Point) : Option Input :=
  (List.finRange 8).find? (fun i => (s.custody.table.get i).any (fun c =>
    c.point == p && k.marked c && k.test s i c && (s.mirror.get p).epoch != 65535#16))

/-- The assembly newly reports point `p` at its last epoch. -/
def limitedAt (k : Assembly) (s : State) (p : Point) : Bool :=
  (List.finRange 8).any (fun i => (s.custody.table.get i).any (fun c =>
    c.point == p && k.marked c && k.test s i c && (s.mirror.get p).epoch == 65535#16 && !c.limitReported))

theorem carried_eq (k : Assembly) (s : State) : k.carried s = (List.finRange 64).filterMap (carriedAt k s) := rfl

theorem limited_eq (k : Assembly) (s : State) : k.limited s = (List.finRange 64).filter (limitedAt k s) := rfl

/-- The record that the assembly makes of point `p`, if it carries the point. -/
def recordAt (k : Assembly) (rec : State → Input → CustodyEntry → α) (s : State) (p : Point) : Option α :=
  (carriedAt k s p).bind (fun i => (s.custody.table.get i).map (rec s i))

/-- What one step of an assembly makes of an entry: the entry, the event and the record. -/
def takeEntry (k : Assembly) (rec : State → Input → CustodyEntry → α) (s : State) (l : List α) (i : Input) (c : CustodyEntry) :
    State × List α :=
  (amended s (s.custody.table.set i (some (k.entry s i c)))
      (if reportsEntry k s i c then (raise (.epochLimit c.point) s).events else s.events) s.link,
    l ++ if carriesEntry k s i c then [rec s i c] else [])

/-- The steps of an assembly, point by point. -/
structure AssemblyRule (k : Assembly) (rec : State → Input → CustodyEntry → α) (f : State × List α → Point → State × List α) :
    Prop where
  skips : ∀ s l p, NoEntry s p → f (s, l) p = (s, l)
  takes : ∀ s l p i c, OnlyEntry s p i c → f (s, l) p = takeEntry k rec s l i c
  entry_point : ∀ s i c, (k.entry s i c).point = c.point
  test_amended : ∀ s x q l, k.test (amended s x q l) = k.test s
  rec_amended : ∀ s x q l, rec (amended s x q l) = rec s

/-! ### One entry of a point, or none -/

theorem UniquePoints.cases (h : UniquePoints s) (p : Point) : NoEntry s p ∨ ∃ i c, OnlyEntry s p i c := by
  by_cases hp : ∃ i c, s.custody.table.get i = some c ∧ c.point = p
  · obtain ⟨i, c, hc, hcp⟩ := hp
    exact .inr ⟨i, c, hc, hcp, fun j x hx hxp => h j i x c hx hc (hxp.trans hcp.symm)⟩
  · exact .inl fun i c hc hcp => hp ⟨i, c, hc, hcp⟩

theorem carriedAt_of_none (h : NoEntry s p) : carriedAt k s p = none :=
  find?_finRange_eq_none fun i => by
    cases hc : s.custody.table.get i with
    | none => rfl
    | some c => simp [h i c hc]

theorem limitedAt_of_none (h : NoEntry s p) : limitedAt k s p = false := by
  refine List.any_eq_false.mpr fun i _ => ?_
  cases hc : s.custody.table.get i with
  | none => simp
  | some c => simp [h i c hc]

theorem carriedAt_of_only (h : OnlyEntry s p i c) : carriedAt k s p = if carriesEntry k s i c then some i else none := by
  obtain ⟨hc, rfl, huniq⟩ := h
  have hothers (j : Input) (hj : j ≠ i) : (s.custody.table.get j).any (fun x => x.point == c.point && k.marked x &&
      k.test s j x && (s.mirror.get c.point).epoch != 65535#16) = false := by
    cases hx : s.custody.table.get j with
    | none => rfl
    | some x => simp [show x.point ≠ c.point from fun hp => hj (huniq j x hx hp)]
  cases hcarries : carriesEntry k s i c with
  | true =>
    refine find?_finRange_eq_some ?_ fun j hj => hothers j (ne_of_lt hj)
    simpa [hc, carriesEntry] using hcarries
  | false =>
    refine find?_finRange_eq_none fun j => ?_
    by_cases hj : j = i
    · subst hj
      rw [hc]
      simpa [carriesEntry] using hcarries
    · exact hothers j hj

theorem limitedAt_of_only (h : OnlyEntry s p i c) : limitedAt k s p = reportsEntry k s i c := by
  obtain ⟨hc, rfl, huniq⟩ := h
  have hi : (s.custody.table.get i).any (fun x => x.point == c.point && k.marked x && k.test s i x &&
      (s.mirror.get c.point).epoch == 65535#16 && !x.limitReported) = reportsEntry k s i c := by
    simp [hc, reportsEntry]
  cases hreports : reportsEntry k s i c with
  | true => exact List.any_eq_true.mpr ⟨i, List.mem_finRange i, hi.trans hreports⟩
  | false =>
    refine List.any_eq_false.mpr fun j _ => ?_
    by_cases hj : j = i
    · subst hj
      simp only [hi.trans hreports]
      exact Bool.false_ne_true
    · cases hx : s.custody.table.get j with
      | none => simp
      | some x => simp [show x.point ≠ c.point from fun hp => hj (huniq j x hx hp)]

/-- What the assembly makes of a point depends on that point's entry alone. -/
theorem AssemblyRule.congr (hR : AssemblyRule k rec f) (h : OnlyEntry s p i c) {c' : CustodyEntry} (hp : c'.point = p)
    {q : EventQueue} {l : Link} {r : Point} (hr : r ≠ p) :
    let u := amended s (s.custody.table.set i (some c')) q l
    recordAt k rec u r = recordAt k rec s r ∧ limitedAt k u r = limitedAt k s r := by
  intro u
  obtain ⟨hc, hcp, -⟩ := h
  have hany (j : Input) (g : CustodyEntry → Bool) (hg : ∀ x : CustodyEntry, x.point ≠ r → g x = false) :
      (u.custody.table.get j).any g = (s.custody.table.get j).any g := by
    have hget : u.custody.table.get j = if j = i then some c' else s.custody.table.get j := Table.get_set ..
    rw [hget]
    split
    next hj =>
      subst hj
      rw [hc, Option.any_some, Option.any_some, hg c' (by rw [hp]; exact hr.symm), hg c (by rw [hcp]; exact hr.symm)]
    next => rfl
  have htest : k.test u = k.test s := hR.test_amended ..
  have hcarried : carriedAt k u r = carriedAt k s r := by
    unfold carriedAt
    refine congrArg (fun g => (List.finRange 8).find? g) (funext fun j => ?_)
    rw [htest]
    exact hany j _ fun x hx => by simp [hx]
  refine ⟨?_, ?_⟩
  · unfold recordAt
    rw [hcarried]
    cases hcar : carriedAt k s r with
    | none => rfl
    | some j =>
      have hj : j ≠ i := by
        rintro rfl
        have := List.find?_some hcar
        rw [hc] at this
        simp [hcp, hr.symm] at this
      rw [Option.bind_some, Option.bind_some, hR.rec_amended]
      exact congrArg (fun z => Option.map (rec s j) z) (Table.get_set_ne _ _ hj)
  · unfold limitedAt
    refine congrArg (fun g => (List.finRange 8).any g) (funext fun j => ?_)
    rw [htest]
    exact hany j _ fun x hx => by simp [hx]

theorem AssemblyRule.entry_amended (hR : AssemblyRule k rec f) (s : State) (x : Table 8 (Option CustodyEntry)) (q : EventQueue)
    (l : Link) : k.entry (amended s x q l) = k.entry s := by
  funext i c
  unfold Assembly.entry
  rw [hR.test_amended]
  rfl

theorem foldl_raise_events {l : List Point} : ∀ {s t : State}, t.control = s.control → t.events = s.events →
    (l.foldl (fun t p => raise (.epochLimit p) t) t).events = (l.foldl (fun t p => raise (.epochLimit p) t) s).events := by
  induction l with
  | nil => exact fun _ he => he
  | cons p l ih => exact fun hc he => ih (by simp [hc]) (raise_events_congr _ hc he)

/-- An assembly over distinct points: the entries, the events and the records (R80 to R83). -/
theorem AssemblyRule.foldl (hR : AssemblyRule k rec f) : ∀ (l : List Point), l.Nodup → ∀ (s : State) (xs : List α),
    UniquePoints s → ∃ x q, l.foldl f (s, xs) = (amended s x q s.link, xs ++ l.filterMap (recordAt k rec s)) ∧
      (∀ i, x.get i = (s.custody.table.get i).map (fun c => if c.point ∈ l then k.entry s i c else c)) ∧
      q = ((l.filter (limitedAt k s)).foldl (fun t p => raise (.epochLimit p) t) s).events
  | [], _, s, xs, _ => ⟨s.custody.table, s.events, by simp [amended], fun i => by simp, rfl⟩
  | p :: l, hl, s, xs, hu => by
    obtain ⟨hpl, hl⟩ := List.nodup_cons.mp hl
    rcases hu.cases p with hnone | ⟨i, c, hone⟩
    · obtain ⟨x, q, hfold, hx, hq⟩ := AssemblyRule.foldl hR l hl s xs hu
      refine ⟨x, q, ?_, fun j => ?_, ?_⟩
      · rw [List.foldl_cons, hR.skips s xs p hnone, hfold, List.filterMap_cons, recordAt, carriedAt_of_none hnone]
        rfl
      · rw [hx]
        cases hc : s.custody.table.get j with
        | none => rfl
        | some y => simp [hnone j y hc]
      · rw [hq, List.filter_cons_of_neg (by simp [limitedAt_of_none hnone])]
    · obtain ⟨hc, hcp, huniq⟩ := id hone
      have hentry : (k.entry s i c).point = p := (hR.entry_point s i c).trans hcp
      let q1 := if reportsEntry k s i c then (raise (.epochLimit c.point) s).events else s.events
      let s1 := amended s (s.custody.table.set i (some (k.entry s i c))) q1 s.link
      have hget (j : Input) : s1.custody.table.get j = if j = i then some (k.entry s i c) else s.custody.table.get j :=
        Table.get_set ..
      have hu1 : UniquePoints s1 := by
        have hold (j : Input) (y : CustodyEntry) (hy : s1.custody.table.get j = some y) :
            ∃ y', s.custody.table.get j = some y' ∧ y'.point = y.point := by
          rw [hget] at hy
          split at hy
          next hj =>
            subst hj
            cases hy
            exact ⟨c, hc, (hR.entry_point s j c).symm⟩
          next => exact ⟨y, hy, rfl⟩
        intro j m y z hy hz hyz
        obtain ⟨y', hy', hyp⟩ := hold j y hy
        obtain ⟨z', hz', hzp⟩ := hold m z hz
        exact hu j m y' z' hy' hz' (hyp.trans (hyz.trans hzp.symm))
      obtain ⟨x, q, hfold, hx, hq⟩ := AssemblyRule.foldl hR l hl s1
        (xs ++ if carriesEntry k s i c then [rec s i c] else []) hu1
      have hne (r : Point) (hr : r ∈ l) : r ≠ p := fun h => hpl (h ▸ hr)
      have hrecords : l.filterMap (recordAt k rec s1) = l.filterMap (recordAt k rec s) :=
        List.filterMap_congr fun r hr => (hR.congr hone hentry (hne r hr)).1
      have hlimited : l.filter (limitedAt k s1) = l.filter (limitedAt k s) :=
        List.filter_congr fun r hr => (hR.congr hone hentry (hne r hr)).2
      refine ⟨x, q, ?_, fun j => ?_, ?_⟩
      · rw [List.foldl_cons, hR.takes s xs p i c hone]
        refine hfold.trans (Prod.ext rfl ?_)
        show _ ++ l.filterMap (recordAt k rec s1) = xs ++ _
        rw [hrecords, List.filterMap_cons, recordAt, carriedAt_of_only hone]
        cases carriesEntry k s i c <;> simp [hc]
      · rw [hx, hget, hR.entry_amended]
        split
        next hj =>
          subst hj
          rw [hc]
          simp [hentry, hpl, hcp]
        next hj =>
          cases hy : s.custody.table.get j with
          | none => rfl
          | some y => simp [show y.point ≠ p from fun hyp => hj (huniq j y hy hyp)]
      · rw [hq, hlimited, List.filter_cons, limitedAt_of_only hone, ← hcp]
        cases hreports : reportsEntry k s i c with
        | true =>
          rw [if_pos rfl, List.foldl_cons]
          exact foldl_raise_events (by simp [s1, amended]) (by simp [s1, amended, q1, hreports])
        | false =>
          rw [if_neg Bool.false_ne_true]
          exact foldl_raise_events rfl (by simp [s1, amended, q1, hreports])

/-! ### The three assemblies -/

theorem custodyInput_of_only (h : OnlyEntry s p i c) : s.custodyInput p = some i := by
  obtain ⟨hc, hcp, huniq⟩ := h
  refine find?_finRange_eq_some (by simp [hc, hcp]) fun j hj => ?_
  cases hx : s.custody.table.get j with
  | none => rfl
  | some x => simpa using fun hxp => absurd (huniq j x hx hxp) (ne_of_lt hj)

theorem custodyInput_of_none (h : NoEntry s p) : s.custodyInput p = none :=
  find?_finRange_eq_none fun i => by
    cases hc : s.custody.table.get i with
    | none => rfl
    | some c => simpa using h i c hc

theorem otherOwns_eq (s : State) (c : CustodyEntry) :
    s.otherOwns c = otherOwner s c (otherStation (s.desc c.point) c.role) := by
  unfold State.otherOwns otherOwner
  cases otherStation (s.desc c.point) c.role <;> rfl

theorem away_otherState (s : State) (c : CustodyEntry) :
    (s.otherState c).away = gone s (otherStation (s.desc c.point) c.role) := by
  unfold State.otherState gone
  cases otherStation (s.desc c.point) c.role with
  | none => rfl
  | some a =>
    dsimp only
    cases (s.roster.entries.get a).state <;> rfl

theorem claimHolds_eq (s : State) (i : Input) (c : CustodyEntry) : s.claimHolds i c = claimAssembly.test s i c := by
  have h : claimAssembly.test s i c = match c.role with
    | .standby => otherOwner s c (s.desc c.point).homeStation && gone s (s.desc c.point).homeStation &&
        (s.contexts.get i).quality != .none
    | .home => otherOwner s c (s.desc c.point).standbyStation && (gone s (s.desc c.point).standbyStation || c.lapsed) := rfl
  rw [h, State.claimHolds, otherOwns_eq, away_otherState]
  cases c.role <;> simp [otherStation, Bool.and_assoc]

theorem reclaimHolds_eq (s : State) (i : Input) (c : CustodyEntry) : s.reclaimHolds c = reclaimAssembly.test s i c := by
  have h : reclaimAssembly.test s i c = (c.role == .home && otherOwner s c (s.desc c.point).standbyStation &&
    (s.desc c.point).standbyStation.any (fun b => (s.roster.entries.get b).state == .present)) := rfl
  rw [h, State.reclaimHolds, otherOwns_eq]
  cases hr : c.role with
  | standby => rfl
  | home =>
    rw [State.otherState, hr, otherStation]
    cases (s.desc c.point).standbyStation <;> rfl

theorem raise_of_same (ev : Event) (hc : t.control = s.control) (he : t.events = s.events) :
    raise ev t = { t with events := (raise ev s).events } :=
  (raise_frame ev t).trans (by rw [raise_events_congr ev hc he])

/-- EPOCH_LIMIT at an entry whose mark an assembly clears (R80). -/
theorem reportLimit_setCustody {c' : CustodyEntry} (hl : c'.limitReported = c.limitReported) (hp : c'.point = c.point) :
    reportLimit i (s.setCustody i c') = amended s (s.custody.table.set i (some { c' with limitReported := true }))
      (if c.limitReported = false then (raise (.epochLimit c.point) s).events else s.events) s.link := by
  have hget : (s.setCustody i c').custody.table.get i = some c' := Table.get_set_self ..
  rw [reportLimit_eq hget, limitReport, hl]
  cases hreported : c.limitReported with
  | true =>
    have heta : { c' with limitReported := true } = c' := by rw [← hreported, ← hl]
    rw [if_pos rfl, if_neg (by simp), heta]
    rfl
  | false =>
    rw [if_neg (by simp), if_pos rfl, hp]
    have hset : (s.setCustody i c').custody.table.set i (some { c' with point := c.point, limitReported := true }) =
        s.custody.table.set i (some { c' with point := c.point, limitReported := true }) := Table.set_set ..
    rw [hset]
    exact raise_of_same (s := s) (t := amended s _ s.events s.link) _ rfl rfl

/-- What every assembly makes of an entry, by its mark, its test and the epoch. -/
theorem takeEntry_eq (hR : ∀ c, (k.clear c).limitReported = c.limitReported ∧ (k.clear c).point = c.point)
    (hc : s.custody.table.get i = some c) (l : List α) : takeEntry k rec s l i c =
      if k.marked c then
        if k.test s i c then
          if (s.mirror.get c.point).epoch = lastEpoch then (reportLimit i (s.setCustody i (k.clear c)), l)
          else (s.setCustody i (k.carry (presenceInterval s.control.image) c), l ++ [rec s i c])
        else (s.setCustody i (k.clear c), l)
      else (s, l) := by
  obtain ⟨hlimit, hpoint⟩ := hR c
  unfold takeEntry carriesEntry reportsEntry Assembly.entry
  cases k.marked c with
  | false =>
    have hset : s.custody.table.set i (some c) = s.custody.table := by rw [← hc, Table.set_get]
    simp [amended, hset]
  | true =>
    cases k.test s i c with
    | false => simp [amended, State.setCustody]
    | true =>
      by_cases he : (s.mirror.get c.point).epoch = 65535#16
      · simp [he, lastEpoch, reportLimit_setCustody hlimit hpoint]
      · simp [he, lastEpoch, amended, State.setCustody, presenceInterval]

theorem claimPoint_rule : AssemblyRule claimAssembly (fun s i c => s.handoverRecord i c.point) claimPoint where
  skips s l p h := by rw [claimPoint, custodyInput_of_none h]
  takes s l p i c h := by
    obtain ⟨hc, rfl, -⟩ := id h
    rw [takeEntry_eq (fun _ => ⟨rfl, rfl⟩) hc, claimPoint, custodyInput_of_only h]
    dsimp only
    rw [hc]
    dsimp only
    rw [claimHolds_eq]
    rfl
  entry_point s i c := by
    unfold Assembly.entry
    split
    · split
      · split <;> rfl
      · rfl
    · rfl
  test_amended s x q l := rfl
  rec_amended s x q l := rfl

theorem reclaimPoint_rule : AssemblyRule reclaimAssembly (fun _ _ c => BitVec.ofNat 8 c.point.val) reclaimPoint where
  skips s l p h := by rw [reclaimPoint, custodyInput_of_none h]
  takes s l p i c h := by
    obtain ⟨hc, rfl, -⟩ := id h
    have hset : s.setCustody i c = s := congrArg s.withTable (by rw [← hc, Table.set_get])
    have hcarry (n : Nat) : reclaimAssembly.carry n c = c := rfl
    rw [takeEntry_eq (fun _ => ⟨rfl, rfl⟩) hc, reclaimPoint, custodyInput_of_only h]
    dsimp only
    rw [hc]
    dsimp only
    rw [reclaimHolds_eq s i, hcarry, hset]
    rfl
  entry_point s i c := by
    unfold Assembly.entry
    split
    · split
      · split <;> rfl
      · rfl
    · rfl
  test_amended s x q l := rfl
  rec_amended s x q l := rfl

theorem yieldPoint_rule : AssemblyRule yieldAssembly (fun s i c => s.handoverRecord i c.point) yieldPoint where
  skips s l p h := by rw [yieldPoint, custodyInput_of_none h]
  takes s l p i c h := by
    obtain ⟨hc, rfl, -⟩ := id h
    have hset : s.setCustody i c = s := congrArg s.withTable (by rw [← hc, Table.set_get])
    have hcarry (n : Nat) : yieldAssembly.carry n c = c := rfl
    rw [takeEntry_eq (fun _ => ⟨rfl, rfl⟩) hc, yieldPoint, custodyInput_of_only h]
    dsimp only
    rw [hc]
    dsimp only
    rw [hcarry, hset]
    rfl
  entry_point s i c := by
    unfold Assembly.entry
    split
    · split
      · split <;> rfl
      · rfl
    · rfl
  test_amended s x q l := rfl
  rec_amended s x q l := rfl

/-- The custody content of a record, by the context's quality (R41, R42). -/
theorem handoverRecord_eq (s : State) (i : Input) (c : CustodyEntry) : s.handoverRecord i c.point = handover s i c := by
  unfold State.handoverRecord custodyRecord suppliedRecord handover contextValue Context.supply
  cases hq : (s.contexts.get i).quality with
  | none => by_cases hm : (s.desc c.point).publish = .valueOnly <;> simp [hm, hq, hitCode, candidateCode]
  | faulted => by_cases hm : (s.desc c.point).publish = .valueOnly <;> simp [hm, hq, hitCode, candidateCode]
  | good => by_cases hm : (s.desc c.point).publish = .valueOnly <;> simp [hm, hq, hitCode]
  | stale => by_cases hm : (s.desc c.point).publish = .valueOnly <;> simp [hm, hq, hitCode]

/-! ### Custody wins (R134, R139) -/

/-- The records of the points that an assembly carries, in increasing point number. -/
theorem filterMap_recordAt (k : Assembly) (rec : State → Input → CustodyEntry → α) (s : State) :
    (List.finRange 64).filterMap (recordAt k rec s) =
      (k.carried s).filterMap (fun i => (s.custody.table.get i).map (rec s i)) := by
  rw [carried_eq, List.filterMap_filterMap]
  rfl

/-- A carried point has a custody entry. -/
theorem entry_of_carried (h : i ∈ k.carried s) : ∃ c, s.custody.table.get i = some c := by
  rw [carried_eq, List.mem_filterMap] at h
  obtain ⟨p, -, hp⟩ := h
  have := List.find?_some hp
  cases hc : s.custody.table.get i with
  | none => rw [hc] at this; cases this
  | some c => exact ⟨c, rfl⟩

theorem isEmpty_records (k : Assembly) (rec : State → Input → CustodyEntry → α) (s : State) :
    ((k.carried s).filterMap (fun i => (s.custody.table.get i).map (rec s i))).isEmpty = (k.carried s).isEmpty := by
  cases hcarried : k.carried s with
  | nil => rfl
  | cons i l =>
    obtain ⟨c, hc⟩ := entry_of_carried (k := k) (s := s) (i := i) (by simp [hcarried])
    simp [hc]

/-- What a win with a custody request does: the assembly's entries and events, and the frame sent or the request withdrawn. -/
theorem exec_win_custody (hR : AssemblyRule k rec f) {d : Deferral} {r : Request} {rest : List Request} (hw : Wins s d)
    (hc : d.linkClass = .urgent) (hq : s.link.urgent = r :: rest) (hu : UniquePoints s) {mk : List α → Payload}
    (hr : ∀ t, assembleRequest r t = (((List.finRange 64).foldl f (t, [])).1,
      if ((List.finRange 64).foldl f (t, [])).2.isEmpty then none else some (mk ((List.finRange 64).foldl f (t, [])).2))) :
    ∃ x q, (∀ i, x.get i = (s.custody.table.get i).map (k.entry s i)) ∧
      q = ((k.limited s).foldl (fun t p => raise (.epochLimit p) t) s).events ∧
      (k.carried s ≠ [] → exec .win s = .next (sending
        (mk ((k.carried s).filterMap (fun i => (s.custody.table.get i).map (rec s i)))) (amended s x q s.link))) ∧
      (k.carried s = [] → exec .win s = .next (departure
        (amended s x q { s.link with urgent := rest, deferral := none }))) := by
  let s0 := amended s s.custody.table s.events { s.link with deferral := none }
  have hs0 : s.withDeferral none = s0 := rfl
  have htest : k.test s0 = k.test s := hR.test_amended ..
  have hentry : k.entry s0 = k.entry s := hR.entry_amended ..
  have hcarried : k.carried s0 = k.carried s := by rw [carried_eq, carried_eq]; unfold carriedAt; rw [htest]; rfl
  have hlimited : k.limited s0 = k.limited s := by rw [limited_eq, limited_eq]; unfold limitedAt; rw [htest]; rfl
  obtain ⟨x, q, hfold, hx, hevents⟩ := hR.foldl (List.finRange 64) (List.nodup_finRange 64) s0 [] hu
  rw [filterMap_recordAt, hcarried, List.nil_append, show rec s0 = rec s from hR.rec_amended ..] at hfold
  have hexec := (exec_win_urgent hw hc hq).trans
    (congrArg (fun a => Host.Outcome.next (sendOrWithdraw (fun s => departure (dequeue r s)) a)) (hr s0))
  rw [hfold] at hexec
  have hempty := isEmpty_records k rec s
  refine ⟨x, q, fun i => ?_, ?_, fun hne => hexec.trans ?_, fun hnone => hexec.trans ?_⟩
  · rw [hx, hentry]
    refine congrArg (fun g => (s.custody.table.get i).map g) (funext fun c => if_pos (List.mem_finRange _))
  · rw [hevents, ← limited_eq, hlimited]
    exact foldl_raise_events rfl rfl
  · have hrecords : ((k.carried s).filterMap (fun i => (s.custody.table.get i).map (rec s i))).isEmpty = false := by
      rw [hempty]; simpa using hne
    refine congrArg Host.Outcome.next (sendOrWithdraw_some ?_)
    exact if_neg fun h => Bool.false_ne_true (hrecords.symm.trans h)
  · have hrecords : ((k.carried s).filterMap (fun i => (s.custody.table.get i).map (rec s i))).isEmpty = true := by
      rw [hempty, hnone]; rfl
    refine congrArg Host.Outcome.next ((sendOrWithdraw_none (if_pos hrecords)).trans ?_)
    exact congrArg departure (dequeue_head (t := amended s x q s.link) hq)

end

end Sys2Proof.Machine

end

section

namespace Sys2Proof.Proofs

open Sys2Proof.Machine Sys2Proof.Safety

/-- Settles O48: the three assemblies as one rule, and the win that sends or withdraws. -/
theorem custodyWinAssembles : Obligations.CustodyWinAssembles := by
  intro s d r rest hrst hrun hfree hd hc hq hu wins records
  have hw : Wins s d := ⟨hrst, hrun, hfree, hd⟩
  have hrecords (is : List Input) :
      is.filterMap (fun i => (s.custody.table.get i).map (fun c => s.handoverRecord i c.point)) = records is := by
    simp only [records, handoverRecord_eq]
  refine ⟨?_, ?_, ?_⟩
  · rintro rfl
    obtain ⟨x, q, hx, hevents, hsent, hnone⟩ := exec_win_custody claimPoint_rule hw hc hq hu (mk := .claim) fun t => rfl
    rw [hrecords] at hsent
    exact ⟨amended s x q s.link, hx, rfl, hevents, hsent, hnone⟩
  · rintro rfl
    obtain ⟨x, q, hx, hevents, hsent, hnone⟩ := exec_win_custody reclaimPoint_rule hw hc hq hu (mk := .reclaim) fun t => rfl
    exact ⟨amended s x q s.link, hx, rfl, hevents, hsent, hnone⟩
  · rintro rfl
    obtain ⟨x, q, hx, hevents, hsent, hnone⟩ := exec_win_custody yieldPoint_rule hw hc hq hu (mk := .yield) fun t => rfl
    rw [hrecords] at hsent
    exact ⟨amended s x q s.link, hx, rfl, hevents, hsent, hnone⟩

end Sys2Proof.Proofs

end

/-! The checks of descriptors, and the fields of the image. -/

section

namespace Sys2Proof.Machine

open Sys2Proof.Safety

/-! ### Descriptors that pass (R151, R152) -/

theorem publishOfCode_isSome (c : BitVec 2) : (publishOfCode c).isSome = true ↔ c = 0 ∨ c = 1 ∨ c = 2 := by
  revert c; decide

theorem policyOfCode_isSome (c : Byte) : (policyOfCode c).isSome = true ↔ c = 0 ∨ c = 1 ∨ c = 2 := by
  unfold policyOfCode
  split_ifs <;> simp_all

theorem used_iff (d : PointDesc) : d.used = true ↔ d.home ≠ 0xFF := bne_iff_ne

theorem groupUsed_iff (d : GroupDesc) : d.used = true ↔ d.memberCount ≠ 0 := bne_iff_ne

theorem serves_iff (d : PointDesc) (a : Station) :
    d.serves a = true ↔ d.homeStation = some a ∨ d.standbyStation = some a := by simp [PointDesc.serves]

theorem pointFits_iff (d : PointDesc) : pointFits d = true ↔
    d.home.toNat ≤ 15 ∧ (d.standby = 0xFF ∨ d.standby.toNat ≤ 15 ∧ d.standby ≠ d.home) ∧
    (d.publishCode = 0 ∨ d.publishCode = 1 ∨ d.publishCode = 2) ∧
    (d.compare = .inside ∨ d.compare = .outside → d.lower.toInt < d.upper.toInt) ∧
    1 ≤ d.assertCount ∧ d.assertCount ≤ 15 ∧ 1 ≤ d.clearCount ∧ d.clearCount ≤ 15 ∧ d.margin ≤ 4095 ∧
    2 ≤ d.freshness ∧ d.freshness ≤ 4095 ∧ d.deadband ≤ 32767 := by
  have hcompare : (match d.compare with
     | .inside => decide (d.lower.toInt < d.upper.toInt)
     | .outside => decide (d.lower.toInt < d.upper.toInt)
     | .above => true
     | .below => true) = true ↔ (d.compare = .inside ∨ d.compare = .outside → d.lower.toInt < d.upper.toInt) := by
    cases d.compare <;> simp
  unfold pointFits
  simp only [Bool.and_eq_true, Bool.or_eq_true, decide_eq_true_eq, beq_iff_eq, bne_iff_ne, publishOfCode_isSome, and_assoc]
  exact and_congr_right fun _ => and_congr_right fun _ => and_congr_right fun _ => and_congr_left fun _ => hcompare

theorem memberFits_iff (m : List Host.Cell) (b : Byte) : memberFits m b = true ↔
    ∃ p, pointOfByte b = some p ∧ (pointDesc m p).home ≠ 0xFF ∧ (pointDesc m p).publish ≠ .valueOnly := by
  unfold memberFits
  cases pointOfByte b with
  | none => simp
  | some p => simp [used_iff]

theorem groupFits_iff (m : List Host.Cell) (d : GroupDesc) : groupFits m d = true ↔
    d.memberCount ≤ 8 ∧
    (∀ b ∈ d.entries.take d.memberCount, ∃ p, pointOfByte b = some p ∧ (pointDesc m p).home ≠ 0xFF ∧
      (pointDesc m p).publish ≠ .valueOnly) ∧
    (d.entries.take d.memberCount).Nodup ∧
    1 ≤ d.k ∧ d.k ≤ d.memberCount ∧ (d.policyCode = 0 ∨ d.policyCode = 1 ∨ d.policyCode = 2) ∧ d.confirm ≤ 4095 := by
  simp only [groupFits, Bool.and_eq_true, List.all_eq_true, decide_eq_true_eq, memberFits_iff, policyOfCode_isSome, and_assoc]

theorem pointFails_iff (m : List Host.Cell) (p : Point) :
    pointFails m p = true ↔ (pointDesc m p).home ≠ 0xFF ∧ ¬ pointFits (pointDesc m p) = true := by
  simp [pointFails, used_iff]

theorem groupFails_iff (m : List Host.Cell) (g : Group) :
    groupFails m g = true ↔ (groupDesc m g).memberCount ≠ 0 ∧ ¬ groupFits m (groupDesc m g) = true := by
  simp [groupFails, groupUsed_iff]

/-! ### Inputs and bound points (R153) -/

theorem inputFails_iff (m : List Host.Cell) (i : Input) : inputFails m i = true ↔
    imageByte m (2 + i.val) ≠ 0xFF ∧ ¬ ∃ p, pointOfByte (imageByte m (2 + i.val)) = some p ∧
      (pointDesc m p).home ≠ 0xFF ∧
      ((pointDesc m p).homeStation = some (ownStation m) ∨ (pointDesc m p).standbyStation = some (ownStation m)) ∧
      ∀ j, j < i → imageByte m (2 + j.val) ≠ imageByte m (2 + i.val) := by
  have hmap : inputMap m i = pointOfByte (imageByte m (2 + i.val)) := rfl
  unfold inputFails
  rw [hmap, Bool.and_eq_true, bne_iff_ne]
  refine and_congr_right fun _ => ?_
  cases pointOfByte (imageByte m (2 + i.val)) with
  | none => simp
  | some p =>
    have hdup : (List.finRange 8).any (fun j => decide (j < i) && inputByte m j == inputByte m i) = true ↔
        ¬ ∀ j, j < i → imageByte m (2 + j.val) ≠ imageByte m (2 + i.val) := by
      simp [inputByte, List.any_eq_true]
    have hserves : ((pointDesc m p).used && (pointDesc m p).serves (ownStation m)) = true ↔ (pointDesc m p).home ≠ 0xFF ∧
        ((pointDesc m p).homeStation = some (ownStation m) ∨ (pointDesc m p).standbyStation = some (ownStation m)) := by
      rw [Bool.and_eq_true, used_iff, serves_iff]
    dsimp only
    rw [Bool.or_eq_true, Bool.not_eq_true', ← Bool.not_eq_true, hserves, hdup]
    simp only [Option.some.injEq, exists_eq_left', not_and_or, or_assoc]

theorem pointUnbound_iff (m : List Host.Cell) (p : Point) : pointUnbound m p = true ↔ (pointDesc m p).home ≠ 0xFF ∧
    ((pointDesc m p).homeStation = some (ownStation m) ∨ (pointDesc m p).standbyStation = some (ownStation m)) ∧
    ∀ i : Input, pointOfByte (imageByte m (2 + i.val)) ≠ some p := by
  have hany : (!(List.finRange 8).any (fun i => inputMap m i == some p)) = true ↔
      ∀ i : Input, pointOfByte (imageByte m (2 + i.val)) ≠ some p := by
    simp [inputMap]
  rw [pointUnbound, Bool.and_eq_true, Bool.and_eq_true, used_iff, serves_iff, hany, and_assoc]

/-! ### Fields of the image (R172, R177) -/

theorem imageHalf_toNat (m : List Host.Cell) (a : Nat) :
    (imageHalf m a).toNat = 256 * (Memory.read m a).toNat + (Memory.read m (a + 1)).toNat := by
  rw [imageHalf, Half.ofBytes, BitVec.toNat_append, ← Nat.shiftLeft_add_eq_or_of_lt (BitVec.isLt _), Nat.shiftLeft_eq]
  omega

theorem compareOfCode_eq (b : Byte) : compareOfCode (b.extractLsb' 0 2) = if b.toNat % 4 = 0 then .above
    else if b.toNat % 4 = 1 then .below else if b.toNat % 4 = 2 then .inside else .outside := by
  have h : (b.extractLsb' 0 2).toNat = b.toNat % 4 := by simp [BitVec.extractLsb'_toNat]
  rw [compareOfCode, ← h]
  simp only [← BitVec.toNat_inj]
  rfl

theorem stationOfByte_eq_some_iff (b : Byte) (a : Station) : stationOfByte b = some a ↔ b.toNat = a.val := by
  refine ⟨fun h => ?_, stationOfByte_eq_some⟩
  unfold stationOfByte at h
  split at h
  · cases h; rfl
  · cases h

theorem publish_of_code {d : PointDesc} {x : PublishMode} (h : publishOfCode d.publishCode = some x) : d.publish = x := by
  rw [PointDesc.publish, h]; rfl

theorem policy_of_code {d : GroupDesc} {x : StalePolicy} (h : policyOfCode d.policyCode = some x) : d.policy = x := by
  rw [GroupDesc.policy, h]; rfl

theorem lineMask_getLsbD (m : List Host.Cell) (g : Group) (n : Fin 4) :
    (lineMask m g).getLsbD n.val = (Memory.read m (10 + g.val / 2)).toNat.testBit (4 * (g.val % 2) + n.val) := by
  rw [lineMask, BitVec.getLsbD_extractLsb', decide_eq_true n.isLt, Bool.true_and, imageByte, BitVec.testBit_toNat]

end Sys2Proof.Machine

end

section

namespace Sys2Proof.Proofs

open Sys2Proof.Machine Sys2Proof.Safety

/-- Settles O7: each check as its conditions, and each field as the bits of its bytes. -/
theorem descriptorChecks : Obligations.DescriptorChecks := by
  refine ⟨⟨fun m p => ?_, fun m g => ?_, inputFails_iff, pointUnbound_iff⟩, fun m => ?_⟩
  · intro d
    rw [pointFails_iff, pointFits_iff]
  · intro d
    rw [groupFails_iff, groupFits_iff]
  · intro at' pair
    have hpair (a : Nat) : (imageHalf m a).toNat = pair a := imageHalf_toNat m a
    refine ⟨fun p => ?_, fun g => ?_, fun i p => pointOfByte_eq_some_iff, fun hown => ?_, fun k => ?_⟩
    · intro d a
      refine ⟨rfl, rfl, compareOfCode_eq _, ?_, ?_, ?_, hpair _, hpair _, hpair _, hpair _, hpair _,
        fun h => publish_of_code (by rw [h]; rfl), fun h => publish_of_code (by rw [h]; rfl),
        fun h => publish_of_code (by rw [h]; rfl), stationOfByte_eq_some_iff _, stationOfByte_eq_some_iff _⟩
      · simp [d, pointDesc, BitVec.extractLsb'_toNat, Nat.shiftRight_eq_div_pow, at', imageByte, a]
      · have hlt := (Memory.read m (64 + 16 * p.val + 3)).isLt
        simp [d, pointDesc, BitVec.extractLsb'_toNat, Nat.shiftRight_eq_div_pow, at', imageByte, a]
        omega
      · simp [d, pointDesc, BitVec.extractLsb'_toNat, at', imageByte, a]
    · intro d a
      refine ⟨rfl, rfl, rfl, ?_, ?_, ?_, hpair _, readAll_eq_map m 8 (a + 6), rfl,
        fun h => policy_of_code (by rw [h]; rfl), fun h => policy_of_code (by rw [h]; rfl),
        fun h => policy_of_code (by rw [h]; rfl), lineMask_getLsbD m g⟩
      · exact (BitVec.testBit_toNat _).symm
      · exact (BitVec.testBit_toNat _).symm
      · exact (BitVec.testBit_toNat _).symm
    · show ((imageByte m 1).extractLsb' 0 4).toNat = _
      simp [BitVec.extractLsb'_toNat, imageByte]
      show at' 1 % 16 = at' 1
      omega
    · rw [← BitVec.testBit_toNat, hpair]

end Sys2Proof.Proofs

end

/-! The runtime initialization and the first evaluation. -/

section

namespace Sys2Proof.Machine

open Sys2Proof.Safety

section

variable {m : List Host.Cell} {s t u : State} {g : Group} {l : List Group}

/-! ### The counts of a group whose members have quality NONE (R48, R49) -/

theorem Validated.fits (h : Validated m) (hused : (groupDesc m g).used = true) : groupFits m (groupDesc m g) = true := by
  simpa [groupFails, hused] using h.groups g

theorem entries_length (m : List Host.Cell) (g : Group) : (groupDesc m g).entries.length = 8 := by
  show (Memory.readAll m _ 8).length = 8
  rw [readAll_eq_map]
  simp

/-- A used group has as many members as its member count says (R152). -/
theorem members_length (h : groupFits m (groupDesc m g) = true) : (groupDesc m g).members.length = (groupDesc m g).memberCount := by
  obtain ⟨hle, hall, -⟩ := (groupFits_iff m (groupDesc m g)).mp h
  have hsome : ∀ b ∈ (groupDesc m g).entries.take (groupDesc m g).memberCount, (pointOfByte b).isSome = true := fun b hb => by
    obtain ⟨p, hp, -⟩ := hall b hb
    rw [hp]; rfl
  rw [GroupDesc.members, List.length_filterMap_eq_countP, List.countP_eq_length.mpr hsome, List.length_take, entries_length]
  omega

theorem votes_of_none (hq : ∀ p, (t.mirror.get p).quality = .none) (d : GroupDesc) :
    d.members.map (fun p => memberVote d.policy (t.mirror.get p).quality (t.mirror.get p).hit) =
      List.replicate d.members.length d.policy.vote := by
  have h : (fun p => memberVote d.policy (t.mirror.get p).quality (t.mirror.get p).hit) = fun _ => d.policy.vote := by
    funext p
    rw [hq p]
    rfl
  rw [h, List.map_const']

/-- The record of a group as the first evaluation leaves it, but for the owed mark (R48, R52). -/
def firstRecord (d : GroupDesc) : GroupRecord :=
  if d.used then
    match d.policy with
    | .asHit =>
      if d.confirm = 0 then
        { GroupRecord.configForm with hitVotes := d.memberCount, state := .tripped, cause := some .localTrip }
      else { GroupRecord.configForm with hitVotes := d.memberCount, state := .arming, confirm := .running d.confirm }
    | .asClear => { GroupRecord.configForm with clearVotes := d.memberCount }
    | .shrink => { GroupRecord.configForm with state := .fault, excluded := d.memberCount }
  else GroupRecord.configForm

/-- The event of a group's first evaluation (R48). -/
def firstEvent (m : List Host.Cell) (t : State) (g : Group) : State :=
  if tripsAtStart (groupDesc m g) then raise (.groupTripped g .localTrip) t
  else if (groupDesc m g).used && ((groupDesc m g).policy == .shrink) then raise (.groupFault g) t
  else t

/-- The group trips at its first evaluation and announces it (R59). -/
def announcesAtStart (m : List Host.Cell) (g : Group) : Bool := tripsAtStart (groupDesc m g) && (groupDesc m g).announce

/-- The groups of `l` wait for their first evaluation. -/
structure Fresh (m : List Host.Cell) (t : State) (l : List Group) : Prop where
  passed : Validated m
  image : t.control.image = m
  quality : ∀ p, (t.mirror.get p).quality = .none
  time : t.events.time = 0
  groups : ∀ g ∈ l, t.voter.groups.get g = GroupRecord.configForm
  requests : ∀ g ∈ l, Request.tripped g ∉ t.link.urgent

/-- What the first evaluation of a group leaves (R48). -/
structure FirstResult (m : List Host.Cell) (g : Group) (t u : State) : Prop where
  record : u.voter.groups.get g = { firstRecord (groupDesc m g) with
    announceOwed := announcesAtStart m g && decide (8 ≤ t.link.urgent.length) }
  urgent : u.link.urgent =
    if announcesAtStart m g = true ∧ t.link.urgent.length < 8 then t.link.urgent ++ [.tripped g] else t.link.urgent
  events : u.events = (firstEvent m t g).events

theorem raise_place_events (ev : Event) (g : Group) (r : GroupRecord) (t : State) :
    (raise ev (place g r t)).events = (raise ev t).events := raise_events_congr (t := place g r t) ev rfl rfl

theorem recount_of_policy (h : Fresh m t l) (hg : g ∈ l) (hused : (groupDesc m g).used = true) :
    recount t g = { GroupRecord.configForm with
      hitVotes := if (groupDesc m g).policy = .asHit then (groupDesc m g).memberCount else 0
      clearVotes := if (groupDesc m g).policy = .asClear then (groupDesc m g).memberCount else 0
      excluded := if (groupDesc m g).policy = .shrink then (groupDesc m g).memberCount else 0 } := by
  have hd : t.groupDesc g = groupDesc m g := by rw [State.groupDesc, h.image]
  unfold recount
  rw [h.groups g hg, hd]
  dsimp only
  rw [votes_of_none h.quality, members_length (h.passed.fits hused)]
  cases (groupDesc m g).policy <;> simp [StalePolicy.vote, List.count_replicate]

/-- A group that trips at once announces it by the room in the urgent queue (R55, R59). -/
theorem FirstResult.of_trip {r : GroupRecord} (hd : t.groupDesc g = groupDesc m g) (ht : tripsAtStart (groupDesc m g) = true)
    (htrip : tripsLocally g r t u) (hnot : Request.tripped g ∉ t.link.urgent)
    (hr : { r with state := .tripped, cause := some .localTrip, confirm := .stopped, stamp := t.events.time } =
      firstRecord (groupDesc m g)) (howed : (firstRecord (groupDesc m g)).announceOwed = false) : FirstResult m g t u := by
  obtain ⟨hsilent, -, hroom, hfull⟩ := htrip
  rw [hd, hr] at hsilent hroom hfull
  have hevent : (raise (.groupTripped g .localTrip) (place g (firstRecord (groupDesc m g)) t)).events =
      (firstEvent m t g).events := by rw [firstEvent, if_pos ht, raise_place_events]
  have hlink : (raise (.groupTripped g .localTrip) (place g (firstRecord (groupDesc m g)) t)).link = t.link := by
    rw [raise_link]; rfl
  have hrecord := place_raise_record g (firstRecord (groupDesc m g)) (.groupTripped g .localTrip) t
  have heta : { firstRecord (groupDesc m g) with announceOwed := false } = firstRecord (groupDesc m g) := by rw [← howed]
  cases ha : (groupDesc m g).announce with
  | false =>
    have hann : announcesAtStart m g = false := by simp [announcesAtStart, ha]
    rw [hsilent ha]
    exact ⟨by rw [hrecord, hann, Bool.false_and, heta], by rw [hlink, hann, if_neg (by simp)], hevent⟩
  | true =>
    have hann : announcesAtStart m g = true := by simp [announcesAtStart, ha, ht]
    by_cases hlen : t.link.urgent.length < 8
    · rw [hroom ha hnot hlen]
      refine ⟨?_, ?_, hevent⟩
      · rw [hann, decide_eq_false (by omega), Bool.and_false, heta]
        exact hrecord
      · rw [if_pos ⟨hann, hlen⟩]
    · rw [hfull ha hnot (by omega)]
      refine ⟨?_, ?_, hevent⟩
      · rw [hann, decide_eq_true (by omega)]
        exact Table.get_set_self ..
      · rw [if_neg fun h => hlen h.2]
        exact congrArg Link.urgent hlink

/-- A group that does not trip at once requests nothing. -/
theorem FirstResult.of_quiet (ht : tripsAtStart (groupDesc m g) = false) (howed : (firstRecord (groupDesc m g)).announceOwed = false)
    (hrecord : u.voter.groups.get g = firstRecord (groupDesc m g)) (hlink : u.link = t.link)
    (hevent : u.events = (firstEvent m t g).events) : FirstResult m g t u := by
  have hann : announcesAtStart m g = false := by simp [announcesAtStart, ht]
  have heta : { firstRecord (groupDesc m g) with announceOwed := false } = firstRecord (groupDesc m g) := by rw [← howed]
  exact ⟨by rw [hrecord, hann, Bool.false_and, heta], by rw [hlink, hann, if_neg (by simp)], hevent⟩

theorem firstRecord_owed (d : GroupDesc) : (firstRecord d).announceOwed = false := by
  unfold firstRecord
  split
  · split
    · split <;> rfl
    · rfl
    · rfl
  · rfl

theorem firstRecord_stamp (d : GroupDesc) : (firstRecord d).stamp = 0 := by
  unfold firstRecord
  split
  · split
    · split <;> rfl
    · rfl
    · rfl
  · rfl

/-- The record of an unused group asserts no line. -/
theorem firstRecord_of_unused {d : GroupDesc} (h : d.used = false) : firstRecord d = GroupRecord.configForm :=
  if_neg (by simp [h])

theorem evaluate_fresh (h : Fresh m t l) (hg : g ∈ l) : FirstResult m g t (evaluate g t) := by
  have hd : t.groupDesc g = groupDesc m g := by rw [State.groupDesc, h.image]
  cases hused : (groupDesc m g).used with
  | false =>
    rw [evaluate_of_unused (by rw [hd]; exact hused)]
    refine .of_quiet (by simp [tripsAtStart, hused]) (firstRecord_owed _) ?_ rfl ?_
    · rw [h.groups g hg, firstRecord, hused]; rfl
    · simp [firstEvent, tripsAtStart, hused]
  | true =>
    obtain ⟨hle, -, -, hk, hkn, -⟩ := (groupFits_iff m (groupDesc m g)).mp (h.passed.fits hused)
    have hcount := recount_of_policy h hg hused
    have hmoves := (Proofs.groupMoves.1 g t (by rw [hd]; exact hused)).1
      (by show (t.voter.groups.get g).state = .clear; rw [h.groups g hg]; rfl)
    dsimp only at hmoves
    rw [hd, hcount, h.time] at hmoves
    obtain ⟨htrips, harms, hfaults, hstays⟩ := hmoves
    cases hpolicy : (groupDesc m g).policy with
    | asHit =>
      have hsat (r : GroupRecord) (hr : r.hitVotes = (groupDesc m g).memberCount ∧ r.excluded = 0) :
          satisfied (groupDesc m g) r = true := by
        rw [satisfied_iff, countedSize, hr.1, hr.2]
        omega
      by_cases hc : (groupDesc m g).confirm = 0
      · refine .of_trip hd (by simp [tripsAtStart, hused, hpolicy, hc])
          (htrips (hsat _ (by simp [hpolicy])) hc) (h.requests g hg) ?_ (firstRecord_owed _)
        simp [firstRecord, hused, hpolicy, hc, h.time, GroupRecord.configForm]
      · rw [harms (hsat _ (by simp [hpolicy])) hc]
        refine .of_quiet (by simp [tripsAtStart, hc]) (firstRecord_owed _) ((Table.get_set_self ..).trans ?_) rfl ?_
        · simp [firstRecord, hused, hpolicy, hc, GroupRecord.configForm]
        · simp [firstEvent, tripsAtStart, hpolicy, hc]; rfl
    | asClear =>
      have hnot (r : GroupRecord) (hr : r.hitVotes = 0 ∧ r.excluded = 0) :
          satisfied (groupDesc m g) r = false ∧ noBasis (groupDesc m g) r = false := by
        rw [← Bool.not_eq_true, ← Bool.not_eq_true, satisfied_iff, noBasis_iff, countedSize, hr.1, hr.2]
        omega
      rw [hstays (hnot _ (by simp [hpolicy])).1 (hnot _ (by simp [hpolicy])).2]
      refine .of_quiet (by simp [tripsAtStart, hpolicy]) (firstRecord_owed _) ((Table.get_set_self ..).trans ?_) rfl ?_
      · simp [firstRecord, hused, hpolicy, GroupRecord.configForm]
      · simp [firstEvent, tripsAtStart, hpolicy]
    | shrink =>
      have hno (r : GroupRecord) (hr : r.excluded = (groupDesc m g).memberCount) : noBasis (groupDesc m g) r = true := by
        rw [noBasis_iff, countedSize, hr, Nat.sub_self]
      rw [hfaults (hno _ (by simp [hpolicy]))]
      refine .of_quiet (by simp [tripsAtStart, hpolicy]) (firstRecord_owed _) ((place_raise_record ..).trans ?_)
        (by rw [raise_link]; rfl) ?_
      · simp [firstRecord, hused, hpolicy, GroupRecord.configForm]
      · rw [raise_place_events]
        simp [firstEvent, tripsAtStart, hused, hpolicy]

/-! ### The evaluations in increasing group number (R48) -/

theorem raise_events_of_image (ev : Event) (hi : t.control.image = u.control.image) (he : t.events = u.events) :
    (raise ev t).events = (raise ev u).events := by simp only [raise_eq, hi, he]

theorem firstEvent_control (t : State) (g : Group) : (firstEvent m t g).control = t.control := by
  unfold firstEvent
  split
  · simp
  · split
    · simp
    · rfl

theorem firstEvent_congr (hi : t.control.image = u.control.image) (he : t.events = u.events) (g : Group) :
    (firstEvent m t g).events = (firstEvent m u g).events := by
  unfold firstEvent
  split
  · exact raise_events_of_image _ hi he
  · split
    · exact raise_events_of_image _ hi he
    · exact he

theorem foldl_firstEvent_congr : ∀ (l : List Group) {t u : State}, t.control.image = u.control.image → t.events = u.events →
    (l.foldl (firstEvent m) t).events = (l.foldl (firstEvent m) u).events
  | [], _, _, _, he => he
  | g :: l, t, u, hi, he => foldl_firstEvent_congr l (by rw [firstEvent_control, firstEvent_control, hi])
      (firstEvent_congr hi he g)

/-- What the first evaluations of the groups `l` leave. -/
structure FirstResults (m : List Host.Cell) (l : List Group) (t u : State) : Prop where
  others : ∀ g, g ∉ l → u.voter.groups.get g = t.voter.groups.get g
  records : ∀ g ∈ l, u.voter.groups.get g = { firstRecord (groupDesc m g) with
    announceOwed := announcesAtStart m g && decide (Request.tripped g ∉ u.link.urgent) }
  urgent : u.link.urgent =
    t.link.urgent ++ ((l.filter (announcesAtStart m)).map Request.tripped).take (8 - t.link.urgent.length)
  events : u.events = (l.foldl (firstEvent m) t).events

theorem foldl_fresh : ∀ (l : List Group) {t : State}, l.Nodup → Fresh m t l →
    FirstResults m l t (l.foldl (fun t g => evaluate g t) t)
  | [], t, _, _ => ⟨fun _ _ => rfl, fun _ h => absurd h (by simp), by simp, rfl⟩
  | a :: l, t, hl, h => by
    obtain ⟨hal, hl⟩ := List.nodup_cons.mp hl
    have hne (g : Group) (hg : g ∈ l) : g ≠ a := fun heq => hal (heq ▸ hg)
    have hfirst := evaluate_fresh h (g := a) (by simp)
    have hstep := evaluate_voterStep a t
    have hfresh : Fresh m (evaluate a t) l := by
      refine ⟨h.passed, by rw [hstep.control, h.image], fun p => by rw [hstep.mirror]; exact h.quality p,
        by rw [hstep.time, h.time], fun g hg => ?_, fun g hg => ?_⟩
      · rw [evaluate_others (hne g hg)]
        exact h.groups g (by simp [hg])
      · have hnot := h.requests g (by simp [hg])
        rw [hfirst.urgent]
        split
        · simpa [hne g hg] using hnot
        · exact hnot
    have ih := foldl_fresh l hl hfresh
    rw [List.foldl_cons]
    have hmem : Request.tripped a ∈ (l.foldl (fun t g => evaluate g t) (evaluate a t)).link.urgent ↔
        announcesAtStart m a = true ∧ t.link.urgent.length < 8 := by
      have hlater : Request.tripped a ∉ ((l.filter (announcesAtStart m)).map Request.tripped).take
          (8 - (evaluate a t).link.urgent.length) := fun hmem => by
        obtain ⟨g, hg, heq⟩ := List.mem_map.mp (List.mem_of_mem_take hmem)
        cases heq
        exact hal (List.mem_filter.mp hg).1
      rw [ih.urgent, List.mem_append, or_iff_left hlater, hfirst.urgent]
      split
      next hc => simp [hc]
      next hc => exact iff_of_false (h.requests a (by simp)) hc
    refine ⟨fun g hg => ?_, fun g hg => ?_, ?_, ?_⟩
    · obtain ⟨hga, hgl⟩ := not_or.mp (mt List.mem_cons.mpr hg)
      rw [ih.others g hgl, evaluate_others hga]
    · rcases List.mem_cons.mp hg with rfl | hgl
      · rw [ih.others g hal, hfirst.record]
        cases hann : announcesAtStart m g with
        | false => rfl
        | true =>
          have hiff : 8 ≤ t.link.urgent.length ↔
              Request.tripped g ∉ (l.foldl (fun t g => evaluate g t) (evaluate g t)).link.urgent := by
            rw [hmem, hann]
            simp
          rw [decide_eq_decide.mpr hiff]
      · exact ih.records g hgl
    · rw [ih.urgent, hfirst.urgent]
      by_cases hann : announcesAtStart m a = true
      · by_cases hlen : t.link.urgent.length < 8
        · rw [if_pos ⟨hann, hlen⟩, List.filter_cons_of_pos hann, List.map_cons, List.length_append, List.length_singleton,
            show 8 - t.link.urgent.length = 8 - (t.link.urgent.length + 1) + 1 by omega, List.take_succ_cons,
            List.append_assoc, List.singleton_append]
        · rw [if_neg fun hc => hlen hc.2, show 8 - t.link.urgent.length = 0 by omega, List.take_zero, List.take_zero]
      · rw [if_neg fun hc => hann hc.1, List.filter_cons_of_neg hann]
    · rw [ih.events, List.foldl_cons]
      have hcontrol := firstEvent_control (m := m) t a
      exact foldl_firstEvent_congr l (by rw [hstep.control, hcontrol]) hfirst.events

/-! ### The runtime initialization (R155) -/

theorem initialForm_fresh (carrier : Bool) (h : validate s.control.image = .none) (l : List Group) :
    Fresh s.control.image (initialForm carrier s) l where
  passed := validated_of_validate h
  image := rfl
  quality := fun p => by rw [initialForm_mirror]; rfl
  time := rfl
  groups := fun g _ => initialForm_group carrier s g
  requests := fun _ _ => by simp [initialForm, Link.configForm]

theorem FirstResults.lines (h : FirstResults m l t u) : FirstResults m l t (setLines u) :=
  ⟨h.others, h.records, h.urgent, h.events⟩

theorem firstEvaluation_results (carrier : Bool) (h : validate s.control.image = .none) :
    FirstResults s.control.image (List.finRange 16) (initialForm carrier s) (firstEvaluation (initialForm carrier s)) :=
  (foldl_fresh (List.finRange 16) (List.nodup_finRange 16) (initialForm_fresh carrier h _)).lines

theorem firstEvaluation_events (carrier : Bool) (h : validate s.control.image = .none) :
    (firstEvaluation (initialForm carrier s)).events = firstEvents s := by
  rw [(firstEvaluation_results carrier h).events, firstEvents]
  exact foldl_firstEvent_congr (m := s.control.image) (List.finRange 16) rfl rfl

/-- The trip lines after the first evaluation are those that the groups give (R61, R62). -/
theorem firstEvaluation_lines (carrier : Bool) (hrst : s.control.rstAsserted = false) :
    (firstEvaluation (initialForm carrier s)).voter.lines =
      groupLines s.control.image (firstEvaluation (initialForm carrier s)).voter.groups := by
  rw [firstEvaluation]
  have hstep := foldl_rel (R := VoterStep) .refl .trans (fun s g => evaluate_voterStep g s) (List.finRange 16)
    (initialForm carrier s)
  generalize (List.finRange 16).foldl (fun t g => evaluate g t) (initialForm carrier s) = u at hstep
  have hactive : u.active = true := by
    rw [active_of_runtime (by rw [hstep.control]; rfl), hstep.control]
    exact congrArg (!·) hrst
  have himage : u.control.image = s.control.image := by rw [hstep.control]; rfl
  show u.lineLevels = groupLines s.control.image u.voter.groups
  rw [State.lineLevels, if_pos hactive, himage]

theorem homeStation_of_unused {d : PointDesc} (h : d.used = false) : d.homeStation = none := by
  have hhome : d.home = 0xFF := by simpa [PointDesc.used] using h
  rw [PointDesc.homeStation, hhome]
  rfl

theorem initialEntry_owner (d : PointDesc) : (initialEntry d).owner = d.homeStation := by
  cases h : d.used with
  | true => simp [initialEntry, h]
  | false => simp [initialEntry, h, homeStation_of_unused h]

end

end Sys2Proof.Machine

end

section

namespace Sys2Proof.Proofs

open Sys2Proof.Machine Sys2Proof.Safety

/-- Settles O8: the initial form of each block, which the first evaluation leaves but for the voter, the requests and the events. -/
theorem runtimeInitialization : Obligations.RuntimeInitialization := by
  intro s carrier hrst hstate hpassed
  have hstep := firstEvaluation_voterStep (initialForm carrier s)
  refine ⟨_, congrArg Host.Outcome.next (validationCompletes_of_passed carrier hrst hstate hpassed), hstep.control, fun p => ?_,
    fun i hi => ⟨?_, ?_⟩, fun i p hi => ⟨?_, ?_⟩, by rw [hstep.custody]; rfl, hstep.publisher, fun a => ?_,
    by rw [hstep.roster]; rfl, by rw [hstep.roster]; rfl, by rw [hstep.roster]; rfl,
    by rw [hstep.link]; rfl, by rw [hstep.link]; rfl, by rw [hstep.link]; rfl, by rw [hstep.link]; rfl,
    by rw [hstep.link]; rfl, by rw [hstep.link]; rfl, by rw [hstep.link]; rfl, by rw [hstep.link]; rfl,
    by rw [hstep.link]; rfl, by rw [hstep.link]; rfl, by rw [hstep.link]; rfl, firstEvaluation_events carrier hpassed,
    hstep.port, hstep.sample, hstep.pending⟩
  · rw [hstep.mirror, initialForm_mirror]
    have howner := initialEntry_owner (pointDesc s.control.image p)
    exact congrArg (fun o => { initialEntry (pointDesc s.control.image p) with owner := o }) howner
  · rw [hstep.contexts, initialForm_context, initialContext, hi]
    rfl
  · rw [hstep.custody, initialForm_custody, initialCustody, hi]
    rfl
  · rw [hstep.contexts, initialForm_context, initialContext_of_bound hi, initialEntry_owner]
    rfl
  · rw [hstep.custody, initialForm_custody, initialCustody, hi]
    rfl
  · rw [hstep.roster, initialForm_roster]
    rfl

/-- Settles O9: the fold of the first evaluations, each group by its policy. -/
theorem firstEvaluationFollowsPolicy : Obligations.FirstEvaluationFollowsPolicy := by
  intro s carrier hrst hstate hpassed
  have hresults := firstEvaluation_results carrier hpassed
  have hreset (g : Group) : State.reset.voter.groups.get g = GroupRecord.configForm := Table.get_fill _ g
  let t := firstEvaluation (initialForm carrier s)
  have hrecord (g : Group) : t.voter.groups.get g = { firstRecord (s.groupDesc g) with
      announceOwed := announcesAtStart s.control.image g && decide (Request.tripped g ∉ t.link.urgent) } :=
    hresults.records g (List.mem_finRange g)
  have hquiet (g : Group) (h : tripsAtStart (s.groupDesc g) = false) :
      t.voter.groups.get g = firstRecord (s.groupDesc g) := by
    have hann : announcesAtStart s.control.image g = false := by
      rw [announcesAtStart]
      exact (congrArg (· && _) h).trans (Bool.false_and _)
    rw [hrecord, hann, Bool.false_and, ← firstRecord_owed (s.groupDesc g)]
  refine ⟨t, congrArg Host.Outcome.next (validationCompletes_of_passed carrier hrst hstate hpassed), fun g => ?_, ?_, ?_,
    firstEvaluation_events carrier hpassed⟩
  · intro d r
    have hr : r = { firstRecord d with
        announceOwed := announcesAtStart s.control.image g && decide (Request.tripped g ∉ t.link.urgent) } := hrecord g
    refine ⟨?_, fun hu => ?_, fun hu hp => ?_, fun hu hp hc => ?_, fun hu hp hc => ?_, fun hu hp => ?_, fun hu hp => ?_, ?_⟩
    · rw [hr]
      exact firstRecord_stamp d
    · rw [hreset]
      refine (hquiet g ?_).trans ?_
      · simp [tripsAtStart, show (s.groupDesc g).used = false from hu]
      · exact if_neg (by rw [show (s.groupDesc g).used = false from hu]; exact Bool.false_ne_true)
    · rw [hr, firstRecord, hu, hp]
      by_cases hc : d.confirm = 0 <;> simp [hc, GroupRecord.configForm]
    · rw [hr, firstRecord, hu, hp, if_pos rfl]
      simp [hc, GroupRecord.configForm]
    · rw [hr, firstRecord, hu, hp, if_pos rfl]
      simp [hc, GroupRecord.configForm]
    · rw [hreset]
      refine (hquiet g ?_).trans ?_
      · simp [tripsAtStart, show (s.groupDesc g).policy = _ from hp]
      · rw [firstRecord, show (s.groupDesc g).used = true from hu, show (s.groupDesc g).policy = _ from hp, if_pos rfl]
    · rw [hreset]
      refine (hquiet g ?_).trans ?_
      · simp [tripsAtStart, show (s.groupDesc g).policy = _ from hp]
      · rw [firstRecord, show (s.groupDesc g).used = true from hu, show (s.groupDesc g).policy = _ from hp, if_pos rfl]
    · rw [hr]
      simp only [announcesAtStart, Bool.and_eq_true, decide_eq_true_eq, and_assoc]
      rfl
  · exact hresults.urgent
  · rw [show t.voter.lines = groupLines s.control.image t.voter.groups from firstEvaluation_lines carrier hrst, groupLines]
    refine congrArg (fun f => (List.finRange 16).foldl f 0) (funext fun l => funext fun g => ?_)
    refine if_congr ((asserting_iff ..).trans (or_congr_right (and_congr_right fun hfault => ?_))) rfl rfl
    refine and_iff_right ?_
    by_contra hunused
    have hunused : (s.groupDesc g).used = false := Bool.not_eq_true _ ▸ hunused
    rw [hrecord, firstRecord_of_unused hunused] at hfault
    cases hfault

end Sys2Proof.Proofs

end

/-! ### A frame's bytes, read back (R129, R174, R175) -/

section

namespace Sys2Proof.Machine

open Sys2Proof.Safety

@[simp] theorem halfOfBytes_extract (w : Half) : Half.ofBytes (w.extractLsb' 8 8) (w.extractLsb' 0 8) = w :=
  BitVec.extractLsb'_append_extractLsb'

@[simp] theorem wordOfBytes_extract (w : Word) :
    Word.ofBytes (w.extractLsb' 24 8) (w.extractLsb' 16 8) (w.extractLsb' 8 8) (w.extractLsb' 0 8) = w := by
  have hhigh : w.extractLsb' 24 8 ++ w.extractLsb' 16 8 = w.extractLsb' 16 16 :=
    BitVec.extractLsb'_append_extractLsb'_eq_extractLsb' rfl
  have hlow : w.extractLsb' 8 8 ++ w.extractLsb' 0 8 = w.extractLsb' 0 16 :=
    BitVec.extractLsb'_append_extractLsb'_eq_extractLsb' rfl
  rw [Word.ofBytes, hhigh, hlow]
  exact BitVec.extractLsb'_append_extractLsb'

@[simp] theorem halfBytes_length (w : Half) : (Half.bytes w).length = 2 := rfl

@[simp] theorem takeHalf_bytes (w : Half) (rest : List Byte) : takeHalf (Half.bytes w ++ rest) = some (w, rest) := by
  simp [Half.bytes, takeHalf]

/-- The three fields of a status byte stand where `takeRecord` reads them (R175). -/
theorem statusByte_fields : ∀ (q : BitVec 2) (h : BitVec 3) (v : BitVec 1),
    (((q ++ h) ++ v) ++ 0#2 : Byte).extractLsb' 6 2 = q ∧ (((q ++ h) ++ v) ++ 0#2 : Byte).extractLsb' 3 3 = h ∧
      (((q ++ h) ++ v) ++ 0#2 : Byte).getLsbD 2 = v.getLsbD 0 := by
  decide

@[simp] theorem qualityOfCode_qualityCode (q : Quality) : qualityOfCode (qualityCode q) = q := by
  cases q <;> rfl

theorem takeValue_valueBytes (v : Option Half) (rest : List Byte) :
    takeValue v.isSome (valueBytes v ++ rest) = some (v, rest) := by
  cases v with
  | none => rfl
  | some v => simp [takeValue, valueBytes]

theorem status_quality (r : Record) : r.status.extractLsb' 6 2 = qualityCode r.quality :=
  (statusByte_fields _ _ _).1

theorem status_hit (r : Record) : r.status.extractLsb' 3 3 = r.hit :=
  (statusByte_fields _ _ _).2.1

theorem status_value (r : Record) : r.status.getLsbD 2 = r.value.isSome := by
  refine (statusByte_fields _ _ _).2.2.trans ?_
  cases r.value.isSome <;> rfl

theorem takeRecord_bytes (r : Record) (rest : List Byte) : takeRecord (r.bytes ++ rest) = some (r, rest) := by
  simp only [Record.bytes, Half.bytes, List.cons_append, List.nil_append, takeRecord, status_value, takeValue_valueBytes,
    status_quality, status_hit, qualityOfCode_qualityCode, halfOfBytes_extract]

/-- The two half bytes of a debounce byte stand where `takeCustodyRecord` reads them (R175). -/
theorem nibbles : ∀ (high low : BitVec 4),
    (high ++ low : Byte).extractLsb' 4 4 = high ∧ (high ++ low : Byte).extractLsb' 0 4 = low :=
  fun _ _ => ⟨BitVec.extractLsb'_append_eq_left, BitVec.extractLsb'_append_eq_right⟩

theorem takeCustodyRecord_bytes (r : CustodyRecord) (rest : List Byte) :
    takeCustodyRecord (r.bytes ++ rest) = some (r, rest) := by
  simp only [CustodyRecord.bytes, Debounce.bytes, List.append_assoc, List.cons_append, List.nil_append,
    takeCustodyRecord, takeRecord_bytes, (nibbles _ _).1, (nibbles _ _).2]

theorem takeActedPair_bytes (a : ActedPair) (rest : List Byte) : takeActedPair (a.bytes ++ rest) = some (a, rest) := by
  simp [ActedPair.bytes, Half.bytes, takeActedPair]

theorem takeWireNotice_bytes (n : WireNotice) (rest : List Byte) : takeWireNotice (n.bytes ++ rest) = some (n, rest) := by
  simp [WireNotice.bytes, Half.bytes, takeWireNotice]

section

variable {α : Type} {take : List Byte → Option (α × List Byte)} {bytes : α → List Byte}

/-- A reader that reads back one entry reads back a list of them. -/
theorem takeMany_flatMap (hread : ∀ a rest, take (bytes a ++ rest) = some (a, rest)) (l : List α) (rest : List Byte) :
    takeMany take l.length (l.flatMap bytes ++ rest) = some (l, rest) := by
  induction l with
  | nil => rfl
  | cons a l ih => simp [takeMany, hread, ih]

theorem takeCounted_counted (hread : ∀ a rest, take (bytes a ++ rest) = some (a, rest)) {lo hi : Nat} {l : List α}
    (hlo : lo ≤ l.length) (hhi : l.length ≤ hi) (hbyte : hi ≤ 255) (rest : List Byte) :
    takeCounted take lo hi (Sys2Proof.counted bytes l ++ rest) = some (l, rest) := by
  have hcount : (BitVec.ofNat 8 l.length).toNat = l.length := by
    rw [BitVec.toNat_ofNat]
    omega
  rw [Sys2Proof.counted, List.cons_append, takeCounted, hcount, if_pos ⟨hlo, hhi⟩]
  exact takeMany_flatMap hread l rest

theorem whole_takeCounted_counted (hread : ∀ a rest, take (bytes a ++ rest) = some (a, rest)) {lo : Nat} {l : List α}
    (hlo : lo ≤ l.length) (hhi : l.length ≤ 8) :
    whole (takeCounted take lo 8 (Sys2Proof.counted bytes l)) = some l := by
  have htake := takeCounted_counted hread hlo hhi (by decide) []
  rw [List.append_nil] at htake
  rw [htake, whole]

/-- Entries of at most `size` bytes and their count. -/
theorem counted_length_le {size : Nat} (hsize : ∀ a, (bytes a).length ≤ size) (l : List α) :
    (Sys2Proof.counted bytes l).length ≤ 1 + size * l.length := by
  rw [Sys2Proof.counted, List.length_cons, List.length_flatMap]
  have hsum := List.sum_le_card_nsmul (l.map fun a => (bytes a).length) size (by simpa using fun a _ => hsize a)
  rw [List.length_map, smul_eq_mul, mul_comm] at hsum
  omega

end

theorem recordBytes_length_le (r : Record) : r.bytes.length ≤ 6 := by
  cases hv : r.value <;> simp [Record.bytes, valueBytes, hv]

theorem custodyRecordBytes_length_le (r : CustodyRecord) : r.bytes.length ≤ 8 := by
  have hlen := recordBytes_length_le r.record
  simpa [CustodyRecord.bytes, Debounce.bytes] using hlen

/-- A payload whose counts fit has a length that its byte holds (R174). -/
theorem payloadBytes_length_lt {p : Payload} (hfit : p.countsFit = true) : p.bytes.length < 256 := by
  cases p with
  | presence d ps ns =>
    simp only [Payload.countsFit, Bool.and_eq_true, decide_eq_true_eq] at hfit
    have hps := counted_length_le (bytes := ActedPair.bytes) (size := 3) (fun _ => Nat.le_refl _) ps
    have hns := counted_length_le (bytes := WireNotice.bytes) (size := 4) (fun _ => Nat.le_refl _) ns
    simp only [Payload.bytes, List.length_append, Word.bytes, List.length_cons, List.length_nil]
    omega
  | point rs =>
    simp only [Payload.countsFit, Bool.and_eq_true, decide_eq_true_eq] at hfit
    have hrs := counted_length_le recordBytes_length_le rs
    simp only [Payload.bytes]
    omega
  | claim rs | yield rs =>
    simp only [Payload.countsFit, Bool.and_eq_true, decide_eq_true_eq] at hfit
    have hrs := counted_length_le custodyRecordBytes_length_le rs
    simp only [Payload.bytes]
    omega
  | reclaim ps =>
    simp only [Payload.countsFit, Bool.and_eq_true, decide_eq_true_eq] at hfit
    have hps := counted_length_le (bytes := fun p : Byte => [p]) (size := 1) (fun _ => Nat.le_refl _) ps
    simp only [Payload.bytes]
    omega
  | trip g k => simp [Payload.bytes]

/-- Checks 2 and 3 of R129 read a payload back from its kind code and its bytes. -/
theorem parsePayload_bytes {p : Payload} (hfit : p.countsFit = true) : parsePayload p.kind p.bytes = some p := by
  cases p with
  | presence d ps ns =>
    simp only [Payload.countsFit, Bool.and_eq_true, decide_eq_true_eq] at hfit
    obtain ⟨hps, hns⟩ := hfit
    simp [parsePayload, Payload.kind, Payload.bytes, Word.bytes, parsePresence,
      takeCounted_counted takeActedPair_bytes (Nat.zero_le _) hps,
      whole_takeCounted_counted takeWireNotice_bytes (Nat.zero_le _) hns]
  | point rs =>
    simp only [Payload.countsFit, Bool.and_eq_true, decide_eq_true_eq] at hfit
    simp [parsePayload, Payload.kind, Payload.bytes, whole_takeCounted_counted takeRecord_bytes hfit.1 hfit.2]
  | claim rs | yield rs =>
    simp only [Payload.countsFit, Bool.and_eq_true, decide_eq_true_eq] at hfit
    simp [parsePayload, Payload.kind, Payload.bytes, whole_takeCounted_counted takeCustodyRecord_bytes hfit.1 hfit.2]
  | reclaim ps =>
    simp only [Payload.countsFit, Bool.and_eq_true, decide_eq_true_eq] at hfit
    have hread : ∀ (p : Byte) (rest : List Byte), takeByte ([p] ++ rest) = some (p, rest) := fun _ _ => rfl
    simp [parsePayload, Payload.kind, Payload.bytes, whole_takeCounted_counted hread hfit.1 hfit.2]
  | trip g k => simp [parsePayload, Payload.kind, Payload.bytes, parseTrip]

/-- The CRC stands in the last two bytes (R174). -/
theorem splitCrc_append (body : List Byte) (crc : Half) : splitCrc (body ++ Half.bytes crc) = some (body, crc) := by
  simp [splitCrc, Half.bytes]

theorem senderNibble (sender : Station) : (BitVec.ofNat 4 sender.val).toFin = sender := by
  apply Fin.ext
  simp

theorem parseFrame_bytes {f : Frame} (hfit : f.payload.countsFit = true) : parseFrame f.bytes = some f := by
  have hlen : f.payload.bytes.length = (BitVec.ofNat 8 f.payload.bytes.length).toNat := by
    have hlt := payloadBytes_length_lt hfit
    rw [BitVec.toNat_ofNat]
    omega
  rw [parseFrame, Frame.bytes, splitCrc_append]
  simp only [Frame.body]
  simp only [and_true, if_pos hlen, (nibbles _ _).1, (nibbles _ _).2, parsePayload_bytes hfit, senderNibble]
  rfl

end Sys2Proof.Machine

end

/-! ### The half-cells of a frame, cut into episodes and read back (R126, R128, R173) -/

section

namespace Sys2Proof.Machine

open Sys2Proof.Safety

/-! #### Cutting the line -/

/-- Two symbols in a row that are not both K: what the symbols of a frame and of a jam keep everywhere, so that the idle
level never lasts for 2 µs inside them. -/
def NotBothIdle (x y : Symbol) : Prop := x ≠ .k ∨ y ≠ .k

@[simp] theorem splitEpisodes_idle_cell (rest : List Bool) :
    splitEpisodes none 0 (true :: rest) = splitEpisodes none 0 rest := rfl

@[simp] theorem splitEpisodes_idle (n : Nat) (rest : List Bool) :
    splitEpisodes none 0 (List.replicate n true ++ rest) = splitEpisodes none 0 rest := by
  induction n with
  | zero => rfl
  | succ n ih => rw [List.replicate_succ, List.cons_append, splitEpisodes_idle_cell, ih]

theorem splitEpisodes_carrier (e : List Bool) (i : Nat) (rest : List Bool) :
    splitEpisodes (some e) i (false :: rest) = splitEpisodes (some (e ++ (List.replicate i true ++ [false]))) 0 rest := rfl

theorem splitEpisodes_pause {i : Nat} (hi : i < 7) (e : List Bool) (rest : List Bool) :
    splitEpisodes (some e) i (true :: rest) = splitEpisodes (some e) (i + 1) rest := by
  rw [splitEpisodes]
  exact if_neg (show ¬ i + 1 = 8 by omega)

/-- The idle level held for 2 µs ends the episode under way. -/
theorem splitEpisodes_quiet (e : List Bool) {i quiet : Nat} (hi : i < 8) (hquiet : 8 ≤ i + quiet) :
    splitEpisodes (some e) i (List.replicate quiet true) = [e] := by
  induction quiet generalizing i with
  | zero => omega
  | succ quiet ih =>
    rw [List.replicate_succ]
    by_cases hlast : i = 7
    · subst hlast
      have hrest := splitEpisodes_idle quiet []
      rw [List.append_nil] at hrest
      exact congrArg (e :: ·) hrest
    · rw [splitEpisodes_pause (by omega)]
      exact ih (by omega) (by omega)

/-- The half-cells at the idle level that may stand at the end of a symbol that follows another than K. -/
def idleBound (x : Symbol) : Nat := if x = .k then 3 else 1

theorem cells_cons (x : Symbol) (xs : List Symbol) : cells (x :: xs) = x.levels.1 :: x.levels.2 :: cells xs := rfl

/-- Symbols of which no two in a row are K keep an episode under way: its half-cells up to the last carrier, and those at the
idle level since, are what was there before and the half-cells of the symbols. -/
theorem splitEpisodes_cells (rest : List Bool) : ∀ (xs : List Symbol) (prev : Symbol) (e : List Bool) (i : Nat),
    i ≤ idleBound prev → List.IsChain NotBothIdle (prev :: xs) →
    ∃ e' i', i' < 8 ∧ e' ++ List.replicate i' true = e ++ (List.replicate i true ++ cells xs) ∧
      splitEpisodes (some e) i (cells xs ++ rest) = splitEpisodes (some e') i' rest := by
  intro xs
  induction xs with
  | nil =>
    intro prev e i hi _
    have hbound : idleBound prev ≤ 3 := by
      unfold idleBound
      split <;> omega
    exact ⟨e, i, by omega, by simp [cells], rfl⟩
  | cons x xs ih =>
    intro prev e i hi hchain
    rw [List.isChain_cons_cons] at hchain
    obtain ⟨hpair, hchain⟩ := hchain
    have hi3 : i ≤ 3 := hi.trans (by unfold idleBound; split <;> omega)
    simp only [cells_cons, List.cons_append]
    cases x with
    | zero =>
      obtain ⟨e', i', hlt, hcells, hsplit⟩ := ih .zero _ 1 (by decide) hchain
      refine ⟨e', i', hlt, hcells.trans ?_, ?_⟩
      rotate_left
      · simp only [Symbol.levels]
        rw [splitEpisodes_carrier, splitEpisodes_pause (by omega)]
        exact hsplit
      · simp [Symbol.levels]
    | one =>
      obtain ⟨e', i', hlt, hcells, hsplit⟩ := ih .one _ 0 (by decide) hchain
      refine ⟨e', i', hlt, hcells.trans ?_, ?_⟩
      rotate_left
      · simp only [Symbol.levels]
        rw [splitEpisodes_pause (by omega), splitEpisodes_carrier]
        exact hsplit
      · simp [Symbol.levels, List.replicate_succ']
    | j =>
      obtain ⟨e', i', hlt, hcells, hsplit⟩ := ih .j _ 0 (by decide) hchain
      refine ⟨e', i', hlt, hcells.trans ?_, ?_⟩
      rotate_left
      · simp only [Symbol.levels]
        rw [splitEpisodes_carrier, splitEpisodes_carrier]
        exact hsplit
      · simp [Symbol.levels]
    | k =>
      have hprev : prev ≠ .k := hpair.resolve_right (by simp)
      have hi1 : i ≤ 1 := by rwa [idleBound, if_neg hprev] at hi
      obtain ⟨e', i', hlt, hcells, hsplit⟩ := ih .k e (i + 2) (by rw [idleBound, if_pos rfl]; omega) hchain
      refine ⟨e', i', hlt, hcells.trans ?_, ?_⟩
      · simp [Symbol.levels, List.replicate_succ']
      · simp only [Symbol.levels]
        rw [splitEpisodes_pause (by omega), splitEpisodes_pause (by omega)]
        exact hsplit

@[simp] theorem symbolOf_levels (x : Symbol) : symbolOf x.levels.1 x.levels.2 = x := by cases x <;> rfl

/-- The idle level alone is no symbol but K. -/
theorem eq_replicate_k_of_cells {xs : List Symbol} {i : Nat} (h : List.replicate i true = cells xs) :
    xs = List.replicate xs.length .k := by
  refine List.eq_replicate_of_mem fun x hx => ?_
  have hidle : ∀ level ∈ cells xs, level = true := fun level hl => List.eq_of_mem_replicate (h ▸ hl)
  have hfirst := hidle x.levels.1 (List.mem_flatMap.mpr ⟨x, hx, by simp⟩)
  have hsecond := hidle x.levels.2 (List.mem_flatMap.mpr ⟨x, hx, by simp⟩)
  cases x <;> simp_all [Symbol.levels]

/-- The symbols of an episode are those that stood on the line, up to the K symbols that its quiet has taken. -/
theorem episodeSymbols_cells : ∀ (xs : List Symbol) (e : List Bool) (i : Nat),
    e ++ List.replicate i true = cells xs → ∃ m, xs = episodeSymbols e ++ List.replicate m .k := by
  intro xs
  induction xs with
  | nil =>
    intro e i h
    have he : e = [] := (List.append_eq_nil_iff.mp h).1
    exact ⟨0, by rw [he]; rfl⟩
  | cons x xs ih =>
    intro e i h
    match e with
    | [] => exact ⟨(x :: xs).length, eq_replicate_k_of_cells h⟩
    | [a] =>
      rw [cells_cons, List.singleton_append, List.cons.injEq] at h
      obtain ⟨ha, h⟩ := h
      match i with
      | 0 => cases h
      | i + 1 =>
        rw [List.replicate_succ, List.cons.injEq] at h
        obtain ⟨hb, h⟩ := h
        refine ⟨xs.length, ?_⟩
        rw [episodeSymbols, ha, hb, symbolOf_levels, List.singleton_append, ← eq_replicate_k_of_cells h]
    | a :: b :: e =>
      rw [cells_cons, List.cons_append, List.cons_append, List.cons.injEq, List.cons.injEq] at h
      obtain ⟨ha, hb, h⟩ := h
      obtain ⟨m, hm⟩ := ih e i h
      exact ⟨m, by rw [episodeSymbols, ha, hb, symbolOf_levels, List.cons_append, ← hm]⟩

/-- A J and symbols of which no two in a row are K, between stretches of the idle level of which the last is quiet, are one
episode of these symbols, up to the K symbols at its end. -/
theorem receivedEpisodes_of_j (before : Nat) {quiet : Nat} (hquiet : 8 ≤ quiet) {xs : List Symbol}
    (hchain : List.IsChain NotBothIdle (.j :: xs)) :
    ∃ ys m, Symbol.j :: xs = ys ++ List.replicate m .k ∧
      receivedEpisodes (List.replicate before true ++ (cells (.j :: xs) ++ List.replicate quiet true)) =
        [sortEpisode ys] := by
  obtain ⟨e, i, hlt, hcells, hsplit⟩ :=
    splitEpisodes_cells (List.replicate quiet true) xs .j (cells [.j]) 0 (by decide) hchain
  obtain ⟨m, hm⟩ := episodeSymbols_cells (.j :: xs) e i hcells
  refine ⟨episodeSymbols e, m, hm, ?_⟩
  have hline : splitEpisodes none 0 (cells (.j :: xs) ++ List.replicate quiet true) = [e] :=
    hsplit.trans (splitEpisodes_quiet e hlt (by omega))
  rw [receivedEpisodes, splitEpisodes_idle, hline]
  rfl

/-- A leading K is not seen: it lies at the idle level (R173). -/
theorem receivedEpisodes_leading_k (before : Nat) (xs : List Symbol) (rest : List Bool) :
    receivedEpisodes (List.replicate before true ++ (cells (.k :: xs) ++ rest)) =
      receivedEpisodes (List.replicate before true ++ (cells xs ++ rest)) := by
  rw [receivedEpisodes, receivedEpisodes, splitEpisodes_idle, splitEpisodes_idle]
  rfl

/-! #### The symbols of a frame -/

/-- The symbols of a frame after the leading K. -/
def frameTail (bytes : List Byte) : List Symbol :=
  [.one, .zero, .j, .k, .zero, .one] ++ (bytes.flatMap byteSymbols ++ endDelimiter)

theorem lineSymbols_eq (bytes : List Byte) : lineSymbols bytes = .k :: .j :: frameTail bytes := rfl

theorem bitSymbol_ne_k (b : Bool) : bitSymbol b ≠ .k := by cases b <;> simp [bitSymbol]

theorem bitSymbol_ne_j (b : Bool) : bitSymbol b ≠ .j := by cases b <;> simp [bitSymbol]

@[simp] theorem bitSymbol_bit (b : Bool) : (bitSymbol b).bit = some b := by cases b <;> rfl

theorem eq_bitSymbol_of_mem_bytes {bytes : List Byte} {x : Symbol} (hx : x ∈ bytes.flatMap byteSymbols) :
    ∃ b, x = bitSymbol b := by
  obtain ⟨byte, -, hx⟩ := List.mem_flatMap.mp hx
  simp only [byteSymbols, List.mem_cons, List.not_mem_nil, or_false] at hx
  rcases hx with rfl | rfl | rfl | rfl | rfl | rfl | rfl | rfl <;> exact ⟨_, rfl⟩

/-- Symbols other than K ahead of a list keep it free of two K in a row. -/
theorem isChain_append_of_ne_k {xs ys : List Symbol} (hxs : ∀ x ∈ xs, x ≠ .k) (hys : List.IsChain NotBothIdle ys) :
    List.IsChain NotBothIdle (xs ++ ys) := by
  induction xs with
  | nil => exact hys
  | cons x xs ih =>
    have hx : x ≠ .k := hxs x List.mem_cons_self
    have hrest := ih fun y hy => hxs y (List.mem_cons_of_mem x hy)
    exact hrest.cons fun _ _ => .inl hx

theorem frame_isChain (bytes : List Byte) : List.IsChain NotBothIdle (.j :: frameTail bytes) := by
  have hend : List.IsChain NotBothIdle endDelimiter := by simp [endDelimiter, NotBothIdle]
  have hbytes := isChain_append_of_ne_k (xs := .zero :: .one :: bytes.flatMap byteSymbols) (fun x hx => by
    rcases List.mem_cons.mp hx with rfl | hx
    · simp
    rcases List.mem_cons.mp hx with rfl | hx
    · simp
    obtain ⟨b, rfl⟩ := eq_bitSymbol_of_mem_bytes hx
    exact bitSymbol_ne_k b) hend
  simpa [frameTail, NotBothIdle] using hbytes

/-- A jam after symbols of which no two in a row are K. -/
theorem isChain_append_jam {xs : List Symbol} (hxs : List.IsChain NotBothIdle xs) :
    List.IsChain NotBothIdle (xs ++ jamSymbols) := by
  refine hxs.append ?_ fun x _ y hy => ?_
  · have hjam := isChain_append_of_ne_k (xs := jamSymbols) (ys := []) (fun x hx => by
      rw [List.eq_of_mem_replicate hx]
      simp) (by simp)
    simpa using hjam
  · rw [show jamSymbols.head? = some .j from rfl, Option.mem_some_iff] at hy
    exact .inr (by rw [← hy]; simp)

/-! #### Sorting an episode -/

/-- The jam signal is three J symbols in a row. -/
theorem hasJam_iff (xs : List Symbol) : hasJam xs = true ↔ [.j, .j, .j] <:+: xs := by
  induction xs with
  | nil => simp [hasJam]
  | cons x xs ih =>
    rw [hasJam, Bool.or_eq_true, ih, List.infix_cons_iff, List.cons_prefix_cons, List.prefix_iff_eq_take]
    rw [Bool.and_eq_true, beq_iff_eq, beq_iff_eq, eq_comm (a := x), eq_comm (a := xs.take 2)]
    rfl

theorem hasJam_append_jam (xs : List Symbol) : hasJam (xs ++ jamSymbols) = true :=
  (hasJam_iff _).mpr ⟨xs, List.replicate 29 .j, by rw [List.append_assoc]; rfl⟩

theorem hasJam_cons_of_ne_j {x : Symbol} (hx : x ≠ .j) (xs : List Symbol) : hasJam (x :: xs) = hasJam xs := by
  rw [hasJam, beq_eq_false_iff_ne.mpr hx, Bool.false_and, Bool.false_or]

theorem hasJam_append_of_ne_j {xs : List Symbol} (hxs : ∀ x ∈ xs, x ≠ .j) (ys : List Symbol) :
    hasJam (xs ++ ys) = hasJam ys := by
  induction xs with
  | nil => rfl
  | cons x xs ih =>
    rw [List.cons_append, hasJam_cons_of_ne_j (hxs x List.mem_cons_self),
      ih fun y hy => hxs y (List.mem_cons_of_mem x hy)]

theorem hasJam_frame (bytes : List Byte) : hasJam (.j :: frameTail bytes) = false := by
  have hbytes : hasJam (bytes.flatMap byteSymbols ++ endDelimiter) = false := by
    rw [hasJam_append_of_ne_j fun x hx => by
      obtain ⟨b, rfl⟩ := eq_bitSymbol_of_mem_bytes hx
      exact bitSymbol_ne_j b]
    rfl
  have hhead : hasJam (.j :: frameTail bytes) = hasJam (bytes.flatMap byteSymbols ++ endDelimiter) := rfl
  rw [hhead, hbytes]

theorem byte_ofBits : ∀ b : Byte, (BitVec.ofBool (b.getLsbD 7) ++ BitVec.ofBool (b.getLsbD 6) ++ BitVec.ofBool (b.getLsbD 5) ++
    BitVec.ofBool (b.getLsbD 4) ++ BitVec.ofBool (b.getLsbD 3) ++ BitVec.ofBool (b.getLsbD 2) ++
    BitVec.ofBool (b.getLsbD 1) ++ BitVec.ofBool (b.getLsbD 0) : Byte) = b := by
  decide

/-- The eight symbols of a byte are read back as the byte. -/
theorem gatherBytes_byte (b : Byte) (rest : List Symbol) :
    gatherBytes (byteSymbols b ++ rest) = (gatherBytes rest).map (b :: ·) := by
  have hnot : byteSymbols b ≠ endDelimiter := fun h => bitSymbol_ne_j _ (List.cons.inj h).1
  simp only [byteSymbols, List.cons_append, List.nil_append, gatherBytes, symbolsByte, bitSymbol_bit, byte_ofBits]
  exact if_neg hnot

theorem gatherBytes_lineBytes (bytes : List Byte) : gatherBytes (bytes.flatMap byteSymbols ++ endDelimiter) = some bytes := by
  induction bytes with
  | nil => rfl
  | cons b bytes ih => rw [List.flatMap_cons, List.append_assoc, gatherBytes_byte, ih, Option.map_some]

/-- Fewer than eight symbols hold neither a byte nor an end delimiter. -/
theorem gatherBytes_of_length_lt {xs : List Symbol} (h : xs.length < 8) : gatherBytes xs = none := by
  match xs with
  | [] | [_] | [_, _] | [_, _, _] | [_, _, _, _] | [_, _, _, _, _] | [_, _, _, _, _, _] | [_, _, _, _, _, _, _] => rfl
  | _ :: _ :: _ :: _ :: _ :: _ :: _ :: _ :: _ =>
    simp only [List.length_cons] at h
    omega

theorem gatherBytes_cut (bytes : List Byte) {n : Nat} (hn : n < (bytes.flatMap byteSymbols ++ endDelimiter).length) :
    gatherBytes ((bytes.flatMap byteSymbols ++ endDelimiter).take n) = none := by
  induction bytes generalizing n with
  | nil =>
    refine gatherBytes_of_length_lt ?_
    rw [List.length_take]
    exact (Nat.min_le_left _ _).trans_lt hn
  | cons b bytes ih =>
    rw [List.flatMap_cons, List.append_assoc] at hn ⊢
    have hbyte : (byteSymbols b).length = 8 := rfl
    by_cases hshort : n < 8
    · refine gatherBytes_of_length_lt ?_
      rw [List.length_take]
      exact (Nat.min_le_left _ _).trans_lt hshort
    · rw [List.length_append, hbyte] at hn
      rw [List.take_append, List.take_of_length_le (by omega), gatherBytes_byte, hbyte, ih (by omega), Option.map_none]

theorem sortEpisode_frame (bytes : List Byte) : sortEpisode (.j :: frameTail bytes) = .frame bytes := by
  rw [sortEpisode, hasJam_frame, if_neg Bool.false_ne_true]
  refine (if_pos rfl).trans ?_
  rw [show List.drop seenDelimiter.length (Symbol.j :: frameTail bytes) = bytes.flatMap byteSymbols ++ endDelimiter from rfl,
    gatherBytes_lineBytes]

theorem sortEpisode_cut (bytes : List Byte) {n : Nat} (hn : n < (Symbol.j :: frameTail bytes).length) :
    sortEpisode ((Symbol.j :: frameTail bytes).take n) = .truncated := by
  have hjam : ¬ hasJam ((Symbol.j :: frameTail bytes).take n) = true := fun h => by
    have hwhole := (hasJam_iff _).mpr (((hasJam_iff _).mp h).trans (List.take_prefix n _).isInfix)
    rw [hasJam_frame] at hwhole
    cases hwhole
  have hsplit : Symbol.j :: frameTail bytes = seenDelimiter ++ (bytes.flatMap byteSymbols ++ endDelimiter) := rfl
  rw [sortEpisode, if_neg hjam]
  split
  next hseen =>
    have hlong : seenDelimiter.length ≤ n := by
      have hlen := congrArg List.length hseen
      rw [List.length_take, List.length_take] at hlen
      omega
    rw [hsplit, List.length_append] at hn
    rw [hsplit, List.drop_take, List.drop_left, gatherBytes_cut bytes (by omega)]
  next => rfl

/-! #### Frame, jam and truncated frame on the line -/

/-- Symbols that end with another than K lose none to the quiet after them. -/
theorem eq_of_append_k {xs ys : List Symbol} {m : Nat} {last : Symbol} (h : xs ++ [last] = ys ++ List.replicate m .k)
    (hlast : last ≠ .k) : ys = xs ++ [last] := by
  match m with
  | 0 => simpa using h.symm
  | m + 1 =>
    rw [List.replicate_succ', ← List.append_assoc] at h
    exact absurd (List.append_inj_right' h rfl) (by simpa using hlast)

section

variable (before : Nat) {quiet : Nat} (hquiet : 8 ≤ quiet)

include hquiet

theorem receivedEpisodes_frame (bytes : List Byte) :
    receivedEpisodes (List.replicate before true ++ (cells (lineSymbols bytes) ++ List.replicate quiet true)) =
      [.frame bytes] := by
  obtain ⟨ys, m, hys, hline⟩ := receivedEpisodes_of_j before hquiet (frame_isChain bytes)
  have hlast : Symbol.j :: frameTail bytes =
      ([.j, .one, .zero, .j, .k, .zero, .one] ++ (bytes.flatMap byteSymbols ++ [.j, .k, .zero, .one, .k, .j, .one])) ++
        [.zero] := by
    simp [frameTail, endDelimiter]
  rw [lineSymbols_eq, receivedEpisodes_leading_k, hline, eq_of_append_k (hlast.symm.trans hys) (by simp), ← hlast,
    sortEpisode_frame]

/-- Symbols that a jam ends, from a J on, are a jam. -/
theorem receivedEpisodes_of_jam {xs rest : List Symbol} (hxs : xs ++ jamSymbols = .j :: rest)
    (hchain : List.IsChain NotBothIdle xs) :
    receivedEpisodes (List.replicate before true ++ (cells (xs ++ jamSymbols) ++ List.replicate quiet true)) = [.jam] := by
  have hjam := isChain_append_jam hchain
  rw [hxs] at hjam
  obtain ⟨ys, m, hys, hline⟩ := receivedEpisodes_of_j before hquiet hjam
  have hlast : xs ++ jamSymbols = (xs ++ List.replicate 31 .j) ++ [.j] := by
    rw [List.append_assoc, ← List.replicate_succ']
    rfl
  rw [hxs, hline, eq_of_append_k (hlast.symm.trans (hxs.trans hys)) (by simp), ← hlast, sortEpisode,
    if_pos (hasJam_append_jam xs)]

theorem receivedEpisodes_jam (bytes : List Byte) (n : Nat) :
    receivedEpisodes (List.replicate before true ++
      (cells ((lineSymbols bytes).take n ++ jamSymbols) ++ List.replicate quiet true)) = [.jam] := by
  match n with
  | 0 => exact receivedEpisodes_of_jam before hquiet rfl (by simp)
  | n + 1 =>
    rw [lineSymbols_eq, List.take_succ_cons, List.cons_append, receivedEpisodes_leading_k]
    have hchain := (frame_isChain bytes).take n
    match n with
    | 0 => exact receivedEpisodes_of_jam before hquiet rfl hchain
    | n + 1 => exact receivedEpisodes_of_jam before hquiet rfl hchain

theorem receivedEpisodes_cut (bytes : List Byte) {n : Nat} (hn : 2 ≤ n) (hlt : n < (lineSymbols bytes).length) :
    receivedEpisodes (List.replicate before true ++
      (cells ((lineSymbols bytes).take n) ++ List.replicate quiet true)) = [.truncated] := by
  obtain ⟨n, rfl⟩ := Nat.exists_eq_add_of_le' hn
  have hcut : (Symbol.j :: frameTail bytes).take (n + 1) = .j :: (frameTail bytes).take n := rfl
  obtain ⟨ys, m, hys, hline⟩ := receivedEpisodes_of_j before hquiet (hcut ▸ (frame_isChain bytes).take (n + 1))
  rw [lineSymbols_eq, List.take_succ_cons, receivedEpisodes_leading_k, hcut, hline]
  rw [← hcut] at hys
  have hprefix : ys <+: Symbol.j :: frameTail bytes :=
    (show ys <+: (Symbol.j :: frameTail bytes).take (n + 1) from ⟨_, hys.symm⟩).trans (List.take_prefix _ _)
  have hlen := congrArg List.length hys
  rw [List.length_append, List.length_take] at hlen
  have hshort : ys.length < (Symbol.j :: frameTail bytes).length := by
    rw [lineSymbols_eq, List.length_cons] at hlt
    omega
  rw [List.prefix_iff_eq_take.mp hprefix, sortEpisode_cut bytes hshort]

end

end Sys2Proof.Machine

end

/-! ### The transmitter's comparison, and the transactions of the management port (R140, R146, R167, R173, R178) -/

section

namespace Sys2Proof.Machine

open Sys2Proof.Safety

/-! #### The comparison -/

theorem firstDisagreement_of_take {sent heard : List Symbol} (h : heard.take sent.length = sent) :
    firstDisagreement sent heard = none := by
  induction sent generalizing heard with
  | nil => rfl
  | cons x sent ih =>
    cases heard with
    | nil => cases h
    | cons y heard =>
      rw [List.length_cons, List.take_succ_cons, List.cons.injEq] at h
      obtain ⟨hxy, hrest⟩ := h
      rw [firstDisagreement, List.headD_cons, if_pos hxy, List.tail_cons, ih hrest, Option.map_none]

theorem firstDisagreement_at (same rest others : List Symbol) {x y : Symbol} (hxy : x ≠ y) :
    firstDisagreement (same ++ x :: rest) (same ++ y :: others) = some same.length := by
  induction same with
  | nil => exact if_neg (Ne.symm hxy)
  | cons z same ih =>
    rw [List.cons_append, List.cons_append, firstDisagreement, List.headD_cons, if_pos rfl, List.tail_cons, ih,
      Option.map_some, List.length_cons]

/-- A frame whose every symbol is heard as it was sent. -/
theorem endCommand_agrees {f : Frame} {heard : List Symbol}
    (h : heard.take (Transmission.frame f).symbols.length = (Transmission.frame f).symbols) :
    (Transmission.frame f).endCommand heard = some .completion ∧
      drivenSymbols (Transmission.frame f).symbols heard = (Transmission.frame f).symbols := by
  have hagrees := firstDisagreement_of_take h
  constructor
  · rw [Transmission.endCommand, hagrees]
    rfl
  · rw [drivenSymbols, hagrees]

/-- A frame of which a symbol is heard as another. -/
theorem endCommand_disagrees {f : Frame} {same rest others : List Symbol} {x y : Symbol} (hxy : x ≠ y)
    (hsent : (Transmission.frame f).symbols = same ++ x :: rest) :
    (Transmission.frame f).endCommand (same ++ y :: others) = some .collision ∧
      drivenSymbols (Transmission.frame f).symbols (same ++ y :: others) = same ++ x :: jamSymbols := by
  have hat := firstDisagreement_at same rest others hxy
  constructor
  · rw [Transmission.endCommand, hsent, hat]
    rfl
  · rw [drivenSymbols, hsent, hat]
    simp [List.take_append]

/-! #### MOSI -/

theorem bytesOfBits_byteBits (b : Byte) (rest : List Bool) : bytesOfBits (byteBits b ++ rest) = b :: bytesOfBits rest := by
  simp only [byteBits, List.cons_append, List.nil_append, bytesOfBits, byte_ofBits]

theorem bytesOfBits_flatMap (bytes : List Byte) (rest : List Bool) :
    bytesOfBits (bytes.flatMap byteBits ++ rest) = bytes ++ bytesOfBits rest := by
  induction bytes with
  | nil => rfl
  | cons b bytes ih => rw [List.flatMap_cons, List.append_assoc, bytesOfBits_byteBits, ih, List.cons_append]

/-- A data count that its two bytes hold is read back, and so are the data. -/
theorem decodeMosi_writeImage (sfsHigh : Bool) (offset : Half) {data : List Byte} (hlen : data.length < 65536)
    (extra : List Byte) :
    decodeMosi sfsHigh (0x21 :: (Half.bytes offset ++ Half.bytes (BitVec.ofNat 16 data.length) ++ data) ++ extra) =
      .writeImage offset data := by
  have hcount : (BitVec.ofNat 16 data.length).toNat = data.length := by
    rw [BitVec.toNat_ofNat]
    omega
  have himage : imageCommand 0x21 offset (BitVec.ofNat 16 data.length) (data ++ extra) = some (.writeImage offset data) := by
    rw [imageCommand, hcount, if_neg (by decide), if_pos ⟨rfl, by simp⟩, List.take_left]
  simp only [Half.bytes, List.cons_append, List.nil_append, decodeMosi, halfOfBytes_extract, himage]
  rfl

theorem decodeMosi_mosiBytes {i : Instr} {bytes : List Byte} {sfsHigh : Bool} (hwf : i.wf = true)
    (hrestart : ∀ b, i = .restart b → b = sfsHigh) (hbytes : mosiBytes i = some bytes) (extra : List Byte) :
    decodeMosi sfsHigh (bytes ++ extra) = i := by
  cases i
  case writeImage offset data =>
    rw [← Option.some.inj hbytes]
    exact decodeMosi_writeImage sfsHigh offset (by simpa [Instr.wf] using hwf) extra
  case readImage offset n =>
    rw [← Option.some.inj hbytes]
    simp only [Half.bytes, List.cons_append, List.nil_append, decodeMosi, halfOfBytes_extract]
    rfl
  case restart b =>
    rw [← Option.some.inj hbytes, hrestart b rfl]
    rfl
  case unknownCommandByte b =>
    rw [← Option.some.inj hbytes]
    exact if_neg (by simpa [Instr.wf] using hwf)
  case start | readStatus | readPoint | readGroup | readRoster | popEvent | clearLatch | release | reclaim =>
    rw [← Option.some.inj hbytes]
    rfl
  all_goals cases hbytes

/-! #### MISO -/

theorem byteBits_getD (b : Byte) : ∀ k, k < 8 → (byteBits b).getD k false = b.getLsbD (7 - k) := by
  intro k hk
  match k, hk with
  | 0, _ | 1, _ | 2, _ | 3, _ | 4, _ | 5, _ | 6, _ | 7, _ => rfl

/-- Bit `k` of bytes that go out most significant bit first. -/
theorem flatMap_byteBits_getD (bytes : List Byte) (k : Nat) :
    (bytes.flatMap byteBits).getD k false = (bytes.getD (k / 8) 0).getLsbD (7 - k % 8) := by
  induction bytes generalizing k with
  | nil => simp
  | cons b bytes ih =>
    have hlen : (byteBits b).length = 8 := rfl
    rw [List.flatMap_cons]
    by_cases hk : k < 8
    · rw [List.getD_append _ _ _ _ (by omega), byteBits_getD b k hk, Nat.div_eq_of_lt hk, Nat.mod_eq_of_lt hk,
        List.getD_cons_zero]
    · rw [List.getD_append_right _ _ _ _ (by omega), hlen, ih, show k / 8 = (k - 8) / 8 + 1 by omega,
        show (k - 8) % 8 = k % 8 by omega, List.getD_cons_succ]

theorem misoLevel_mcsn_high (s : State) (shiftedIn n : Nat) : s.misoLevel true shiftedIn n = none := by
  rw [State.misoLevel, Bool.or_true, if_pos rfl]

theorem misoLevel_of_reset {s : State} (hreset : s.control.rstAsserted = true) (mcsnHigh : Bool) (shiftedIn n : Nat) :
    s.misoLevel mcsnHigh shiftedIn n = none := by
  rw [State.misoLevel, hreset, Bool.true_or, if_pos rfl]

theorem misoLevel_response {s : State} (hready : Ready s) {bytes : List Byte} (hmiso : s.port.miso = .response bytes)
    (shiftedIn n : Nat) :
    s.misoLevel false shiftedIn n = some ((misoByte shiftedIn bytes (n / 8)).getLsbD (7 - n % 8)) := by
  obtain ⟨hreset, hwaiting⟩ := hready
  rw [State.misoLevel, hreset, hwaiting, hmiso]
  rfl

theorem misoLevel_highImpedance {s : State} (hready : Ready s) (hmiso : s.port.miso = .highImpedance) (shiftedIn n : Nat) :
    s.misoLevel false shiftedIn n = some false := by
  obtain ⟨hreset, hwaiting⟩ := hready
  rw [State.misoLevel, hreset, hwaiting, hmiso]
  rfl

/-- While the command and its arguments come in, MISO carries 0x00. -/
theorem misoLevel_command {s : State} (hready : Ready s) {shiftedIn n : Nat} (hn : n < 8 * shiftedIn) :
    s.misoLevel false shiftedIn n = some false := by
  cases hmiso : s.port.miso with
  | highImpedance => exact misoLevel_highImpedance hready hmiso shiftedIn n
  | response bytes =>
    rw [misoLevel_response hready hmiso, misoByte, if_pos (by omega)]
    simp

theorem misoLevel_after_command {s : State} (hready : Ready s) {bytes : List Byte}
    (hmiso : s.port.miso = .response bytes) (shiftedIn k : Nat) :
    s.misoLevel false shiftedIn (8 * shiftedIn + k) = some ((bytes.flatMap byteBits).getD k false) := by
  rw [misoLevel_response hready hmiso, misoByte, if_neg (by omega), flatMap_byteBits_getD,
    show (8 * shiftedIn + k) / 8 - shiftedIn = k / 8 by omega, show (8 * shiftedIn + k) % 8 = k % 8 by omega]

end Sys2Proof.Machine

end

section

namespace Sys2Proof.Proofs

open Sys2Proof.Machine Sys2Proof.Safety

/-- Settles O55: frames are read back entry by entry; on the line, no two K in a row keep a frame one episode, whose end the
quiet strips of K symbols alone; bytes and bits on the management port are read back byte by byte. -/
theorem layoutsReadBack : Obligations.LayoutsReadBack := by
  unfold Obligations.LayoutsReadBack
  refine ⟨fun f hfit => parseFrame_bytes hfit, fun bytes before quiet n hquiet => ⟨?_, ?_, ?_⟩,
    fun f heard => ⟨endCommand_agrees, ?_⟩, ?_, fun s shiftedIn n => ⟨?_, ?_, fun hready => ⟨?_, ?_⟩⟩⟩
  · exact receivedEpisodes_frame before hquiet bytes
  · exact receivedEpisodes_jam before hquiet bytes n
  · exact receivedEpisodes_cut before hquiet bytes
  · rintro same others x y rest hxy hsent rfl
    exact endCommand_disagrees hxy hsent
  · intro i bytes more sfsHigh hwf hrestart hbytes
    rw [decodeMosiBits, bytesOfBits_flatMap]
    exact decodeMosi_mosiBytes hwf hrestart hbytes _
  · exact misoLevel_mcsn_high s shiftedIn n
  · exact fun hreset mcsnHigh => misoLevel_of_reset hreset mcsnHigh shiftedIn n
  · exact misoLevel_command hready
  · rintro bytes k hmiso rfl
    exact misoLevel_after_command hready hmiso shiftedIn k

end Sys2Proof.Proofs

end
